-- ==== Sys2Proof/Word.lean ====
section
/-! DEFINITION. The word type of the part: the eight-bit byte that passes on the links and the tag port (R175). Everything
the manual counts, numbers or measures is a natural number or a bounded index, not a byte. -/

namespace Sys2Proof

/-- One character of a link or of the tag port: 8 data bits (R175). -/
abbrev Byte := BitVec 8

end Sys2Proof
end

