-- ==== Sys2Proof/Config.lean ====
section
/-! DEFINITION. What one part fixes: the sizes of its queues and windows, and the value the manual leaves open. -/

namespace Sys2Proof.Config

/-- The value of a body byte the manual gives no value for (log entry 4): uninterpreted, applied to the model's counter
`State.freeCount`, so that no proof can rest on it. -/
opaque freeByte : Nat → Byte

/-- The tag window, in millisecond events (R25). -/
def tagWindow : Nat := 40

/-- Request places of one link unit (R178). -/
def requestPlaces : Nat := 4

/-- Notice places of one transmit queue (R182). -/
def noticePlaces : Nat := 12

/-- Orders the book holds at most (R117). -/
def bookSize : Nat := 48

/-- The mark byte that opens a message, D3h (R177). -/
def markByte : Byte := 0xD3#8

/-- The longest body of a message (R177). -/
def maxBody : Nat := 20

end Sys2Proof.Config
end

