-- ==== Sys2Proof/Syntax.lean ====
section
/-! DEFINITION. The commands of the part: one constructor of `Instr` for each row of the table of operations and events,
with the operands that come from outside. A request's body and tag are no operands: they lie in the request place of the
link that took the message (R178), and the command names the link whose oldest untaken request is taken (R179). -/

namespace Sys2Proof

/-- The three links (0.2). -/
inductive Link where
  | counter
  | stock
  | service
  deriving DecidableEq, Repr

/-- A carrier number 0..15 (0.3). -/
abbrev CarrierId := Fin 16

/-- A section number 0..31 (R1). -/
abbrev SectionId := Fin 32

/-- A station, by its index: station number s of the manual, 1..12, is the index s − 1 (R1). -/
abbrev StationId := Fin 12

/-- A reader number 0..43: reader k is that of E_k for k ≤ 31, reader 31 + s that of K_s (R20). -/
abbrev ReaderId := Fin 44

/-- The 57 sensor inputs of the line unit (R20). -/
inductive Sensor where
  /-- Entry sensor E_k. -/
  | entry (k : SectionId)
  /-- Spur entry sensor N_s. -/
  | spurEntry (s : StationId)
  /-- Dock sensor K_s. -/
  | dock (s : StationId)
  /-- The drive-ready input. -/
  | driveReady
  deriving DecidableEq, Repr

/-- The five strap pins, by their codes: three rate straps and two parity straps (R175). -/
structure Straps where
  rate   : Fin 8
  parity : Fin 4
  deriving DecidableEq, Repr

/-- The commands of the part, one for each row of the table of operations and events.

`high` lists the sensor pins at high level when the command is taken, every other sensor pin being low. `chars` lists the
characters that arrived, without error, since the command before it on that line; a row's own event comes after them. -/
inductive Instr where
  /-- POWER_ON_RESET (R2, R167). -/
  | powerOnReset (high : List Sensor) (straps : Straps)
  /-- PIN_RESET (R167). -/
  | pinReset (high : List Sensor) (straps : Straps)
  /-- MESSAGE_RECEIVED (R177): the characters of a message, mark byte to check byte. -/
  | messageReceived (l : Link) (chars : List Byte)
  /-- LENGTH_ABOVE_20 (R177): the characters of a message up to its length byte. -/
  | lengthAbove20 (l : Link) (chars : List Byte)
  /-- MESSAGE_GAP (R177): more than 10 character times pass after `chars`. -/
  | messageGap (l : Link) (chars : List Byte)
  /-- CHARACTER_ERROR (R176): after `chars`, a character whose parity bit disagrees with its data, or whose stop bit is at
  space, or both. -/
  | characterError (l : Link) (chars : List Byte) (parityBad stopBad : Bool)
  /-- BREAK (R176): after `chars`, the line has been at space for 2 character times. -/
  | linkBreak (l : Link) (chars : List Byte)
  /-- TRANSMIT_COMPLETE (R182): the check byte of the message at the head of the transmit queue has gone. -/
  | transmitComplete (l : Link)
  /-- UNKNOWN_KIND (R179). -/
  | unknownKind (l : Link)
  /-- PLACE (R122). -/
  | place (l : Link)
  /-- CANCEL (R134). -/
  | cancel (l : Link)
  /-- EXPEDITE (R125). -/
  | expedite (l : Link)
  /-- TAKEN (R133). -/
  | taken (l : Link)
  /-- QUERY (R139). -/
  | query (l : Link)
  /-- LOADED (R129). -/
  | loaded (l : Link)
  /-- SHORT (R130). -/
  | short (l : Link)
  /-- ENDORSE (R124). -/
  | endorse (l : Link)
  /-- CLOSE_STATION (R96). -/
  | closeStation (l : Link)
  /-- OPEN_STATION (R96). -/
  | openStation (l : Link)
  /-- SET_MODE (R156). -/
  | setMode (l : Link)
  /-- SETTLE (R157). -/
  | settle (l : Link)
  /-- RESUME (R158). -/
  | resume (l : Link)
  /-- RECOVER (R165). -/
  | recover (l : Link)
  /-- SURVEY (R168). -/
  | survey (l : Link)
  /-- RESET (R167), with the pins it samples and the straps it reads (R35, R175). -/
  | reset (l : Link) (high : List Sensor) (straps : Straps)
  /-- CLEAR_CAUSE (R166). -/
  | clearCause (l : Link)
  /-- ADMIT (R110). -/
  | admitCarrier (l : Link)
  /-- RETIRE (R111). -/
  | retire (l : Link)
  /-- CLEAR_CARRIER (R112). -/
  | clearCarrier (l : Link)
  /-- JOG (R113). -/
  | jog (l : Link)
  /-- MAP_OPEN (R12). -/
  | mapOpen (l : Link)
  /-- MAP_WRITE (R14). -/
  | mapWrite (l : Link)
  /-- MAP_READ (R15). -/
  | mapRead (l : Link)
  /-- MAP_CLOSE (R16). -/
  | mapClose (l : Link)
  /-- READ_TRACK (R166). -/
  | readTrack (l : Link)
  /-- READ_SECTION (R75). -/
  | readSection (l : Link)
  /-- READ_STATION (R97). -/
  | readStation (l : Link)
  /-- READ_CARRIER (R115). -/
  | readCarrier (l : Link)
  /-- READ_LINES (R34). -/
  | readLines (l : Link)
  /-- READ_LINK (R184). -/
  | readLink (l : Link)
  /-- MILLISECOND_EVENT (R39), with the pin levels it samples (R21). -/
  | millisecondEvent (high : List Sensor)
  /-- SENSOR_LEVEL_ACCEPTED (R21). -/
  | sensorLevelAccepted (x : Sensor)
  /-- TAG_REPORT (R26): the characters of a report, reader number then id. -/
  | tagReport (chars : List Byte)
  /-- TAG_REPORT_TIMEOUT (R23): 2 character times pass after `chars`. -/
  | tagReportTimeout (chars : List Byte)
  /-- TAG_CHARACTER_ERROR (R23): a flagged character after `chars`. -/
  | tagCharacterError (chars : List Byte)
  /-- TAG_PORT_BREAK (R23): after `chars`, the line has been at space for 2 character times. -/
  | tagPortBreak (chars : List Byte)
  /-- READ_WINDOW_EXPIRY (R27) of one pending-read slot. -/
  | readWindowExpiry (r : ReaderId)
  /-- STEP_EVENT (R38). -/
  | stepEvent
  /-- JOG_COMPLETE (R114). -/
  | jogComplete
  /-- SECOND_EVENT (R39). -/
  | secondEvent
  /-- AUTOPARK_EXPIRY (R161). -/
  | autoparkExpiry
  /-- WARMUP_END (R159). -/
  | warmupEnd
  /-- WARMUP_DRIVE_FAIL (R159). -/
  | warmupDriveFail
  /-- SWEEP_END (R171). -/
  | sweepEnd
  /-- SPUR_CLEARED (R172). -/
  | spurCleared (i : StationId)
  /-- LINK_LINE_RETURNS_TO_MARK (R176). -/
  | linkLineReturnsToMark (l : Link)
  /-- TAG_PORT_RETURNS_TO_MARK (R23). -/
  | tagPortReturnsToMark
  deriving DecidableEq, Repr

end Sys2Proof
end

