-- ==== Sys2Proof/WellFormed.lean ====
section
/-! DEFINITION. What a command's operands must satisfy to describe something that can arrive at the part: no pin named twice, at
least one character where the row's own event is the taking of one, and an error where the row reports one. `exec` gives every
command a meaning, well formed or not. -/

namespace Sys2Proof

/-- Why a command's operands describe nothing that can arrive. -/
inductive Complaint where
  /-- A sensor pin is listed twice. -/
  | repeatedPin
  /-- No character arrived, where the event is that of a character's arrival. -/
  | noCharacter
  /-- A character error with neither error. -/
  | noError
  deriving DecidableEq, Repr

/-- No sensor is listed twice. -/
def distinctPins : List Sensor → Bool
  | [] => true
  | x :: xs => !xs.contains x && distinctPins xs

/-- The complaint about a command, if there is one. -/
def Instr.complaint : Instr → Option Complaint
  | .powerOnReset high _ => if distinctPins high then none else some .repeatedPin
  | .pinReset high _ => if distinctPins high then none else some .repeatedPin
  | .reset _ high _ => if distinctPins high then none else some .repeatedPin
  | .millisecondEvent high => if distinctPins high then none else some .repeatedPin
  | .messageReceived _ chars => if chars.isEmpty then some .noCharacter else none
  | .lengthAbove20 _ chars => if chars.isEmpty then some .noCharacter else none
  | .characterError _ _ parityBad stopBad => if parityBad || stopBad then none else some .noError
  | .tagReport chars => if chars.isEmpty then some .noCharacter else none
  | .messageGap _ _ | .linkBreak _ _ | .transmitComplete _ | .unknownKind _ => none
  | .place _ | .cancel _ | .expedite _ | .taken _ | .query _ | .loaded _ | .short _ | .endorse _ => none
  | .closeStation _ | .openStation _ | .setMode _ | .settle _ | .resume _ | .recover _ | .survey _ | .clearCause _ => none
  | .admitCarrier _ | .retire _ | .clearCarrier _ | .jog _ | .mapOpen _ | .mapWrite _ | .mapRead _ | .mapClose _ => none
  | .readTrack _ | .readSection _ | .readStation _ | .readCarrier _ | .readLines _ | .readLink _ => none
  | .sensorLevelAccepted _ | .tagReportTimeout _ | .tagCharacterError _ | .tagPortBreak _ | .readWindowExpiry _ => none
  | .stepEvent | .jogComplete | .secondEvent | .autoparkExpiry | .warmupEnd | .warmupDriveFail | .sweepEnd => none
  | .spurCleared _ | .linkLineReturnsToMark _ | .tagPortReturnsToMark => none

/-- A well-formed command. -/
def Instr.wf (i : Instr) : Bool := i.complaint.isNone

end Sys2Proof
end

