-- ==== Sys2Proof/Decode.lean ====
section
/-! DEFINITION. The commands a word spells. The table of operations and events gives no bits to any of its rows: a command is no
word but an operation or an event, so no word spells one (log entry 14). -/

namespace Sys2Proof

/-- The command a word of `nbits` bits spells: none, since the table gives no row any bits. -/
def decodeTableWord (_nbits _w : Nat) : Option Instr := none

end Sys2Proof
end

