-- ==== Sys2Proof/Machine/State.lean ====
section
/-! DEFINITION. The state of the part: every record, queue, count, latch and mode the manual gives its ten blocks (0.4), as
plain data, with the queue of commands that wait to be taken. A range the manual gives a field is in the field's docstring;
it is a type where a bound is a plain fact of one field. -/

namespace Sys2Proof.Machine

/-! ## The stop map (chapter 1) -/

/-- The map state (R2). -/
inductive MapState where
  | invalid
  | edit
  | valid
  deriving DecidableEq, Repr

/-- The kind of a station that is set (R5); a station of kind NONE is an absent item. -/
inductive Kind where
  | stock
  | counter
  | depot
  deriving DecidableEq, Repr

/-- The polarity of a sensor (R1). -/
inductive Polarity where
  | activeHigh
  | activeLow
  deriving DecidableEq, Repr

/-- The LOOP item (R3): the section count S, 8..32, and the admission limit A as written, 0..S−2. -/
structure LoopItem where
  count : Nat
  limit : Nat
  deriving DecidableEq, Repr

/-- A SECTION item (R4): the length L_k, 32..4095, and the polarity of E_k. -/
structure SectionItem where
  len : Nat
  pol : Polarity
  deriving DecidableEq, Repr

/-- A STATION item whose kind is not NONE (R5): capacity 1..3, or 1..8 for a DEPOT; X_s and Y_s 16..1023; the polarities of
N_s and K_s. -/
structure StationItem where
  kind     : Kind
  junction : SectionId
  capacity : Nat
  exitLen  : Nat
  approach : Nat
  polEntry : Polarity
  polDock  : Polarity
  deriving DecidableEq, Repr

/-- A BIN_RANGE item that is not empty (R7): bins 0..4095, first not above last. -/
structure BinRange where
  first      : Nat
  last       : Nat
  station    : StationId
  restricted : Bool
  deriving DecidableEq, Repr

/-- A rate parameter (R8): prescale code 0..7 and reload value 0..254. -/
structure Rate where
  code   : Nat
  reload : Nat
  deriving DecidableEq, Repr

/-- The twelve PARAMETER items (R8), by number. -/
structure Params where
  /-- 1: slack σ, 0..50 percent. -/
  slack       : Nat
  /-- 2: load margin μ, 0..10 percent. -/
  loadMargin  : Nat
  /-- 3: carrier length C, 8..255 steps. -/
  carrierLen  : Nat
  /-- 4: guard G, 8..255 steps. -/
  guard       : Nat
  /-- 5: RUN rate. -/
  runRate     : Rate
  /-- 6: SLOW rate. -/
  slowRate    : Rate
  /-- 7: go-around limit, 1..7. -/
  goAround    : Nat
  /-- 8: stall limit, 1..8. -/
  stallLimit  : Nat
  /-- 9: aging period, 1..255 s. -/
  aging       : Nat
  /-- 10: autopark delay Z, 0..255 s. -/
  autopark    : Nat
  /-- 11: warm-up W, 1..255 units of 10 ms. -/
  warmup      : Nat
  /-- 12: sensor filter F, 0..15 ms. -/
  filter      : Nat
  deriving DecidableEq, Repr

/-- The default of every parameter (R8). -/
def Params.default : Params :=
  { slack := 10, loadMargin := 4, carrierLen := 40, guard := 24, runRate := ⟨5, 96⟩, slowRate := ⟨6, 96⟩, goAround := 3,
    stallLimit := 3, aging := 10, autopark := 0, warmup := 50, filter := 3 }

/-- The stop map (R1): the map state, the items of six groups, an unset item being absent, and the notes MAP_OPEN takes of
occupied depot spurs (R12), each a junction and a queue length. -/
structure StopMap where
  state    : MapState
  loop     : Option LoopItem
  sections : Vector (Option SectionItem) 32
  stations : Vector (Option StationItem) 12
  windows  : Vector (Option StationId) 16
  bins     : Vector (Option BinRange) 8
  params   : Params
  notes    : Vector (Option (SectionId × Nat)) 12
  deriving DecidableEq, Repr

/-! ## The line unit (chapter 2) -/

/-- The filter of one sensor (R21): the accepted level (true for high) and the hold count, 0..16. `due` is the model's own
field: the millisecond event has judged the new level accepted and SENSOR_LEVEL_ACCEPTED has not been taken yet (log entry 2). -/
structure Filter where
  accepted : Bool
  hold     : Nat
  due      : Bool
  deriving DecidableEq, Repr

/-- A pending-read slot (R25), with its window count 0..40; a report of no read is `none`. -/
inductive Slot where
  | empty
  | leadWaiting (window : Nat)
  | reportWaiting (read : Option CarrierId) (window : Nat)
  deriving DecidableEq, Repr

/-- The 69 output latches (R30). -/
structure Latches where
  d       : Vector Bool 32
  q       : Vector Bool 12
  v       : Vector Bool 12
  g       : Vector Bool 12
  driveOn : Bool
  deriving DecidableEq, Repr

/-- The line unit (R20 to R35): the sensor pins as last sampled, the filters, the pending-read slots, the tag port's
half-assembled report and whether it waits for its line to return to mark, the stray-read count 0..255, and the latches. -/
structure LineUnit where
  pins     : Vector Bool 57
  filters  : Vector Filter 57
  slots    : Vector Slot 44
  tagHalf  : Option Byte
  tagBreak : Bool
  stray    : Nat
  latches  : Latches
  deriving DecidableEq, Repr

/-! ## Step generator and time base (chapter 3) -/

/-- The step generator (R36): stopped, or running with the divisor of the interval in progress. -/
structure StepGen where
  interval : Option Nat
  deriving DecidableEq, Repr

/-- The time base (R39): millisecond events since the last second event, 0..999. `secondDue` is the model's own field: the
1000th millisecond event has come and its second event has not been taken yet (log entry 2). -/
structure TimeBase where
  ms        : Nat
  secondDue : Bool
  deriving DecidableEq, Repr

/-! ## The section table (chapter 4) -/

/-- How a reservation was granted (R54). -/
inductive Way where
  | loop
  | merge
  deriving DecidableEq, Repr

/-- The state of a section with its holder and, while RESERVED, its reservation way (R54). -/
inductive SecState where
  | free
  | reserved (c : CarrierId) (w : Way)
  | occupied (c : CarrierId)
  | trailing (c : CarrierId)
  deriving DecidableEq, Repr

/-- Whose read result is awaited at a sensor (R54, R76). -/
inductive Awaited where
  | none
  | unexpected
  | carrier (c : CarrierId)
  deriving DecidableEq, Repr

/-- A section record (R54); passovers 0..2. -/
structure SectionRec where
  st          : SecState
  tailPending : Bool
  spurPlace   : Option StationId
  loopClaim   : Option CarrierId
  mergeClaim  : Option StationId
  passovers   : Nat
  awaited     : Awaited
  deriving DecidableEq, Repr

/-- The section table (R54): the records, the loop population p, 0..16, the admission queue, oldest first, and the stray-edge
count, 0..255. -/
structure SectionTable where
  recs       : Vector SectionRec 32
  population : Nat
  admission  : List StationId
  strayEdges : Nat
  deriving DecidableEq, Repr

/-! ## The spur unit (chapter 5) -/

/-- The dock state with the dock carrier (R76). -/
inductive Dock where
  | empty
  | docked (c : CarrierId)
  | launching (c : CarrierId)
  deriving DecidableEq, Repr

/-- A station record (R76): the copies of the STATION item (kind `none` for NONE), and the fields of the spur. -/
structure StationRec where
  kind          : Option Kind
  junction      : SectionId
  capacity      : Nat
  queue         : List CarrierId
  inbound       : Nat
  entryPending  : Option CarrierId
  dock          : Dock
  movingUp      : Option CarrierId
  launchPending : Option CarrierId
  launchGranted : Bool
  heldLaunch    : Option CarrierId
  awaitedDock   : Awaited
  calls         : Nat
  closed        : Bool
  deriving DecidableEq, Repr

/-! ## The carrier table (chapters 3 and 6) -/

/-- The nine carrier states (R101). -/
inductive CarState where
  | out
  | unknown
  | idle
  | called
  | loading
  | delivering
  | presenting
  | returning
  | removing
  deriving DecidableEq, Repr

/-- The place of a carrier (R99); a queue place carries the index, 0 at the head. -/
inductive Place where
  | none
  | loop (k : SectionId)
  | diverting (s : StationId)
  | queue (s : StationId) (index : Nat)
  | docked (s : StationId)
  | launching (s : StationId)
  deriving DecidableEq, Repr

/-- The stretch of a passage record, with its place (R40). -/
inductive Stretch where
  | none
  | loop (k : SectionId)
  | divert (s : StationId)
  | launch (s : StationId)
  | dock (s : StationId)
  deriving DecidableEq, Repr

/-- The sensor an armed trail watch watches (R40). -/
inductive Watch where
  | entry (k : SectionId)
  | spur (s : StationId)
  deriving DecidableEq, Repr

/-- The passage record (R40): the stretch, n 0..4095, B, the stop point, overrun raised; the armed watch, t 0..4095, T and tail
overrun raised. -/
structure Passage where
  stretch     : Stretch
  n           : Nat
  budget      : Nat
  stopPoint   : Option Nat
  overrun     : Bool
  watch       : Option Watch
  t           : Nat
  trailBudget : Nat
  tailOverrun : Bool
  deriving DecidableEq, Repr

/-- The passage record after a reset (R40). -/
def Passage.clear : Passage :=
  { stretch := .none, n := 0, budget := 0, stopPoint := none, overrun := false, watch := none, t := 0, trailBudget := 0,
    tailOverrun := false }

/-- The three kinds of stall that belong to a running stretch (R98). -/
inductive FrontKind where
  | front
  | launch
  | dock
  deriving DecidableEq, Repr

/-- The stall kinds of a carrier (R98): at most one of FRONT, LAUNCH and DOCK, and TAIL. -/
structure StallKinds where
  stretch : Option FrontKind
  tail    : Bool
  deriving DecidableEq, Repr

/-- A carrier record (R98): load class 0..3, go-around count 0..7, consecutive misreads 0..15. The stalled flag is set exactly
while the stall kinds are not empty, so it is computed (`CarrierRec.stalled`). -/
structure CarrierRec where
  state         : CarState
  place         : Place
  order         : Option Nat
  dest          : Option StationId
  load          : Nat
  goArounds     : Nat
  passage       : Passage
  stall         : StallKinds
  misreads      : Nat
  suspect       : Bool
  retirePending : Bool
  deriving DecidableEq, Repr

/-- The carrier record after a reset (R100). -/
def CarrierRec.reset : CarrierRec :=
  { state := .unknown, place := .none, order := none, dest := none, load := 0, goArounds := 0, passage := Passage.clear,
    stall := ⟨none, false⟩, misreads := 0, suspect := false, retirePending := false }

/-- The target of a jog (R113). -/
inductive JogTarget where
  | sectionAt (k : SectionId)
  | spur (s : StationId)
  deriving DecidableEq, Repr

/-- A running jog (R113): target, steps remaining and delivered, 0..255, and the request's tag. -/
structure Jog where
  target    : JogTarget
  remaining : Nat
  delivered : Nat
  tag       : Byte
  deriving DecidableEq, Repr

/-- The carrier table (R98, R113): the records, the stalled count, 0..16, and the jog record, absent for NONE. -/
structure CarrierTable where
  recs         : Vector CarrierRec 16
  stalledCount : Nat
  jog          : Option Jog
  deriving DecidableEq, Repr

/-! ## The order book (chapter 7) -/

/-- The status of a line (R118). -/
inductive LineStatus where
  | pending
  | loaded
  | short
  deriving DecidableEq, Repr

/-- A line record (R118). -/
structure Line where
  bin        : Nat
  qty        : Nat
  station    : StationId
  restricted : Bool
  status     : LineStatus
  deriving DecidableEq, Repr

/-- The class of an order (R117). -/
inductive OrderClass where
  | rush
  | standard
  | bulk
  deriving DecidableEq, Repr

/-- The state of an order (R119). -/
inductive OrderState where
  | held
  | queued
  | assigned
  | atStock
  | toCounter
  | atCounter
  deriving DecidableEq, Repr

/-- The link whose PLACE created an order (R117). -/
inductive Origin where
  | counter
  | service
  deriving DecidableEq, Repr

/-- An order record (R117): ticket 1..65535, window 1..16, age 0..65535. -/
structure Order where
  ticket     : Nat
  origin     : Origin
  originTag  : Byte
  window     : Nat
  counter    : StationId
  cls        : OrderClass
  lines      : List Line
  stops      : List StationId
  nextStop   : Nat
  restricted : Bool
  state      : OrderState
  carrier    : Option CarrierId
  age        : Nat
  deriving DecidableEq, Repr

/-- The order book (R117, R121): the orders, oldest first, and the ticket counter. -/
structure OrderBook where
  orders  : List Order
  counter : Nat
  deriving DecidableEq, Repr

/-! ## The dispatcher (chapter 8) -/

/-- The dispatcher (R141): the candidate list, ascending. `opportunity` is the model's own field: within one command, a
dispatch opportunity has been raised whose pass has not run yet (R146); it is false between commands. -/
structure Dispatcher where
  candidates  : List CarrierId
  opportunity : Bool
  deriving DecidableEq, Repr

/-! ## Track control (chapter 9) -/

/-- The track modes (R154). -/
inductive Mode where
  | park
  | warmup
  | run
  | slow
  | hold
  | survey
  deriving DecidableEq, Repr

/-- The speed selector (R154). -/
inductive Speed where
  | run
  | slow
  deriving DecidableEq, Repr

/-- The settle selector (R154). -/
inductive Settle where
  | hold
  | park
  deriving DecidableEq, Repr

/-- The kinds of fault (R163). -/
inductive FaultKind where
  | unexpectedEntry
  | tagMismatch
  | stallLimit
  | driveFail
  | removedUnexpected
  | surveyFail
  deriving DecidableEq, Repr

/-- The place a fault names: a section, a station or none (R163). -/
inductive FaultPlace where
  | sectionAt (k : SectionId)
  | station (s : StationId)
  | none
  deriving DecidableEq, Repr

/-- The first-fault record (R154). -/
structure FaultRec where
  kind    : FaultKind
  place   : FaultPlace
  carrier : Option CarrierId
  second  : Nat
  deriving DecidableEq, Repr

/-- The pending completion (R154). -/
inductive Completion where
  | none
  | resume (tag : Byte)
  | survey (tag : Byte)
  deriving DecidableEq, Repr

/-- The phase of a survey (R166). -/
inductive Phase where
  | awaitingWarmup
  | sweep
  | clearing
  | returning
  deriving DecidableEq, Repr

/-- A marker of the sweep (R169): section, carrier or anonymous, count 0..4095, trail-seen flag, unread count 0..3. `id` is the
model's own name for the marker, so that a section's awaited marker can be told from the others. -/
structure Marker where
  id        : Nat
  sec       : SectionId
  carrier   : Option CarrierId
  count     : Nat
  trailSeen : Bool
  unread    : Nat
  deriving DecidableEq, Repr

/-- The clearing state of a station (R172): `awaiting` while a LEAD of K_s waits for its read result. -/
inductive Clearing where
  | none
  | found
  | driving (count budget : Nat) (awaiting : Bool)
  | cleared
  deriving DecidableEq, Repr

/-- The survey record (R168 to R174): phase, sweep count, the markers (the markers of one section stand in entry order, oldest
first), each section's awaited marker, the carriers tracked, those of them still provisional, and the clearing states. -/
structure SurveyRec where
  phase       : Phase
  sweepCount  : Nat
  markers     : List Marker
  nextId      : Nat
  awaited     : Vector (Option Nat) 32
  tracked     : List CarrierId
  provisional : List CarrierId
  clearing    : Vector Clearing 12
  deriving DecidableEq, Repr

/-- The mode record (R154): later-fault count 0..255, second count 0..65535, warm-up count in ms with the W taken at its start,
autopark seconds remaining (absent when stopped). -/
structure TrackControl where
  mode        : Mode
  speed       : Speed
  settle      : Settle
  autoParked  : Bool
  faultFlag   : Bool
  firstFault  : Option FaultRec
  laterFaults : Nat
  causePower  : Bool
  causePin    : Bool
  causeService : Bool
  seconds     : Nat
  completion  : Completion
  warmCount   : Nat
  warmW       : Nat
  countdown   : Option Nat
  survey      : Option SurveyRec
  deriving DecidableEq, Repr

/-! ## The link units (chapter 10) -/

/-- The four answers (R181). -/
inductive AnswerKind where
  | done
  | deferred
  | busy
  | refused
  deriving DecidableEq, Repr

/-- The nine notices (R183). -/
inductive NoticeKind where
  | completion
  | arrived
  | loadCall
  | held
  | stall
  | fault
  | mode
  | restarted
  | circling
  deriving DecidableEq, Repr

/-- The kind of a message the part sends (R180). -/
inductive MsgKind where
  | answer (a : AnswerKind)
  | notice (n : NoticeKind)
  deriving DecidableEq, Repr

/-- A message of the transmit queue (R182). -/
structure TxMsg where
  kind : MsgKind
  tag  : Byte
  body : List Byte
  deriving DecidableEq, Repr

/-- A held request in its request place (R178); `taken` once it has been taken (R179). -/
structure Held where
  kind  : Byte
  tag   : Byte
  body  : List Byte
  taken : Bool
  deriving DecidableEq, Repr

/-- The receive assembler (R177): the characters taken since the mark byte while ASSEMBLING. -/
inductive Assembler where
  | hunting
  | assembling (chars : List Byte)
  deriving DecidableEq, Repr

/-- The seven counts of a link unit, each 0..255 (R184). -/
structure LinkCounts where
  parity  : Nat
  framing : Nat
  check   : Nat
  gap     : Nat
  overrun : Nat
  brk     : Nat
  dropped : Nat
  deriving DecidableEq, Repr

/-- The counts after a reset or a READ_LINK (R184, R185). -/
def LinkCounts.zero : LinkCounts := ⟨0, 0, 0, 0, 0, 0, 0⟩

/-- A link unit (R176 to R185): the assembler, whether it waits for the line to return to mark after a break, the held requests
in arrival order, the transmit queue in order, and the counts. READY is computed (`LinkUnit.ready`). -/
structure LinkUnit where
  assembler : Assembler
  brk       : Bool
  held      : List Held
  tx        : List TxMsg
  counts    : LinkCounts
  deriving DecidableEq, Repr

/-- The three link units. -/
structure Links where
  counter : LinkUnit
  stock   : LinkUnit
  service : LinkUnit
  deriving DecidableEq, Repr

/-! ## The whole part -/

/-- The state of the part. `pending` is the queue of commands that wait, first in first out; `freeCount` is the model's own
field, the number of free values used so far (log entry 4); `framing` is what the straps gave at the last reset (R175). -/
structure State where
  pending   : List Instr
  freeCount : Nat
  framing   : Straps
  map       : StopMap
  line      : LineUnit
  gen       : StepGen
  time      : TimeBase
  secs      : SectionTable
  stations  : Vector StationRec 12
  cars      : CarrierTable
  book      : OrderBook
  disp      : Dispatcher
  track     : TrackControl
  links     : Links
  deriving DecidableEq, Repr

/-- The reasons the machine stops with a fault. There are none: an error on the track is an effect on the state (R163), so no
command raises a `Fault`, and that nothing can is safe. -/
inductive Fault where
  deriving DecidableEq, Repr

/-- The reasons a command has no meaning. -/
inductive Refusal where
  /-- Raised by `exec` alone, for a command with no meaning yet; no arm raises it now. Safe: the machine stops. -/
  | notModelled (mnemonic : String)
  deriving DecidableEq, Repr

/-! ## Reset values -/

/-- The index of a sensor among the 57 filters: E_0..E_31, N_1..N_12, K_1..K_12, DRIVE_READY (R20). -/
def sensorIndex : Sensor → Fin 57
  | .entry k => ⟨k.val, by omega⟩
  | .spurEntry s => ⟨32 + s.val, by omega⟩
  | .dock s => ⟨44 + s.val, by omega⟩
  | .driveReady => ⟨56, by omega⟩

/-- The sensor pins with exactly the listed ones at high level. -/
def pinsOf (high : List Sensor) : Vector Bool 57 :=
  Vector.ofFn fun i => high.any fun x => sensorIndex x == i

/-- The stop map after a power-on reset (R2). -/
def StopMap.reset : StopMap :=
  { state := .invalid, loop := none, sections := Vector.replicate 32 none, stations := Vector.replicate 12 none,
    windows := Vector.replicate 16 none, bins := Vector.replicate 8 none, params := Params.default,
    notes := Vector.replicate 12 none }

/-- All output latches inactive (R35). -/
def Latches.reset : Latches :=
  { d := Vector.replicate 32 false, q := Vector.replicate 12 false, v := Vector.replicate 12 false,
    g := Vector.replicate 12 false, driveOn := false }

/-- The line unit after any reset with the given pin levels (R35). R35 gives the tag port's wait for its line to return to mark
(R23) no value: that a reset taken during a break ends the wait is the model's choice (DESIGN CHOICE, log entry 5). -/
def LineUnit.reset (pins : Vector Bool 57) : LineUnit :=
  { pins := pins, filters := Vector.ofFn fun i => ⟨pins[i.val], 0, false⟩, slots := Vector.replicate 44 .empty,
    tagHalf := none, tagBreak := false, stray := 0, latches := Latches.reset }

/-- A section record after any reset (R55). -/
def SectionRec.reset : SectionRec :=
  { st := .free, tailPending := false, spurPlace := none, loopClaim := none, mergeClaim := none, passovers := 0,
    awaited := .none }

/-- The section table after any reset (R55). -/
def SectionTable.reset : SectionTable :=
  { recs := Vector.replicate 32 SectionRec.reset, population := 0, admission := [], strayEdges := 0 }

/-- A station record with the given copies of its item and every other field as after any reset (R77). -/
def StationRec.resetWith (kind : Option Kind) (junction : SectionId) (capacity : Nat) : StationRec :=
  { kind := kind, junction := junction, capacity := capacity, queue := [], inbound := 0, entryPending := none, dock := .empty,
    movingUp := none, launchPending := none, launchGranted := false, heldLaunch := none, awaitedDock := .none, calls := 0,
    closed := false }

/-- The carrier table after any reset (R100, R114). -/
def CarrierTable.reset : CarrierTable :=
  { recs := Vector.replicate 16 CarrierRec.reset, stalledCount := 0, jog := none }

/-- The mode record after a reset that leaves the given cause flags (R154). R154 gives the warm-up count the value 0 and the W held
beside it none: that W is 0 too is the model's choice (DESIGN CHOICE, log entry 3); it is written when the next WARMUP begins. -/
def TrackControl.reset (power pin service : Bool) : TrackControl :=
  { mode := .park, speed := .run, settle := .hold, autoParked := false, faultFlag := false, firstFault := none,
    laterFaults := 0, causePower := power, causePin := pin, causeService := service, seconds := 0, completion := .none,
    warmCount := 0, warmW := 0, countdown := none, survey := none }

/-- A byte with the given three flags as values 1, 2 and 4 (R183). -/
def causeByte (power pin service : Bool) : Byte :=
  BitVec.ofNat 8 ((if power then 1 else 0) + (if pin then 2 else 0) + (if service then 4 else 0))

/-- A link unit after any reset: RESTARTED stands first in its transmit queue (R185). R176 and R185 give the wait for the line to
return to mark after a break no reset value: that a reset taken during a break ends the wait, so that characters are taken at
once, is the model's choice (DESIGN CHOICE, log entry 5). -/
def LinkUnit.reset (cause : Byte) : LinkUnit :=
  { assembler := .hunting, brk := false, held := [], tx := [⟨.notice .restarted, 0#8, [cause]⟩], counts := LinkCounts.zero }

/-- The three link units after any reset. -/
def Links.reset (cause : Byte) : Links := ⟨LinkUnit.reset cause, LinkUnit.reset cause, LinkUnit.reset cause⟩

/-- The part right after a power-on reset. The manual gives every value but these, which are the model's choice: the levels on the
input pins, the sensor pins taken low and the straps as code 0, the station records' copies of the map, and the W beside the
warm-up count (log entry 3); the waits of the tag port and the links for the end of a break (log entry 5); and the model's own
count of free values (log entry 4). -/
def State.reset : State :=
  { pending := [], freeCount := 0, framing := ⟨0, 0⟩, map := StopMap.reset, line := LineUnit.reset (pinsOf []), gen := ⟨none⟩,
    time := ⟨0, false⟩, secs := SectionTable.reset, stations := Vector.replicate 12 (StationRec.resetWith none 0 0),
    cars := CarrierTable.reset, book := ⟨[], 1⟩, disp := ⟨[], false⟩, track := TrackControl.reset true false false,
    links := Links.reset (causeByte true false false) }

end Sys2Proof.Machine
end

