-- ==== Sys2Proof/Machine/Ops.lean ====
section
/-! DEFINITION. The named operations over the records of the state: reading and writing one entry of a table, saturating counts,
queuing an answer or a notice (R181 to R183), writing a carrier record with the dispatcher's test of it (R141), and the layout
functions every block reads from the stop map. -/

namespace Sys2Proof.Machine

/-! ## Tables and counts -/

/-- The entry of a table at a number. -/
def tget {α : Type} {n : Nat} (v : Vector α n) (i : Fin n) : α := v[i.val]

/-- The table with one entry written. -/
def tset {α : Type} {n : Nat} (v : Vector α n) (i : Fin n) (a : α) : Vector α n := v.set i.val a i.isLt

/-- One more, stopping at the maximum (0.6, Saturation). -/
def satInc (max n : Nat) : Nat := min (n + 1) max

/-- A section number from a count. -/
def secOf (n : Nat) : SectionId := ⟨n % 32, Nat.mod_lt _ (by decide)⟩

/-- Every section number, ascending. -/
def allSections : List SectionId := List.finRange 32

/-- Every station, ascending. -/
def allStations : List StationId := List.finRange 12

/-- Every carrier number, ascending. -/
def allCarriers : List CarrierId := List.finRange 16

/-! ## Records of the state -/

/-- The record of section k. -/
def State.sec (s : State) (k : SectionId) : SectionRec := tget s.secs.recs k

/-- Section k's record replaced. -/
def State.setSec (s : State) (k : SectionId) (r : SectionRec) : State :=
  { s with secs := { s.secs with recs := tset s.secs.recs k r } }

/-- Section k's record changed. -/
def State.modSec (s : State) (k : SectionId) (f : SectionRec → SectionRec) : State := s.setSec k (f (s.sec k))

/-- The record of a station. -/
def State.stn (s : State) (i : StationId) : StationRec := tget s.stations i

/-- A station's record replaced. -/
def State.setStn (s : State) (i : StationId) (r : StationRec) : State := { s with stations := tset s.stations i r }

/-- A station's record changed. -/
def State.modStn (s : State) (i : StationId) (f : StationRec → StationRec) : State := s.setStn i (f (s.stn i))

/-- The record of a carrier. -/
def State.car (s : State) (c : CarrierId) : CarrierRec := tget s.cars.recs c

/-- The link unit of a link. -/
def Links.get (ls : Links) : Link → LinkUnit
  | .counter => ls.counter
  | .stock => ls.stock
  | .service => ls.service

/-- The link units with one replaced. -/
def Links.set (ls : Links) (l : Link) (u : LinkUnit) : Links :=
  match l with
  | .counter => { ls with counter := u }
  | .stock => { ls with stock := u }
  | .service => { ls with service := u }

/-- The link unit of a link. -/
def State.link (s : State) (l : Link) : LinkUnit := s.links.get l

/-- One link unit changed. -/
def State.modLink (s : State) (l : Link) (f : LinkUnit → LinkUnit) : State :=
  { s with links := s.links.set l (f (s.links.get l)) }

/-- Track control's record changed. -/
def State.modTrack (s : State) (f : TrackControl → TrackControl) : State := { s with track := f s.track }

/-- The output latches changed (R30). -/
def State.modLatches (s : State) (f : Latches → Latches) : State :=
  { s with line := { s.line with latches := f s.line.latches } }

/-- The stray-edge count incremented, stopping at 255 (R54). -/
def State.countStrayEdge (s : State) : State :=
  { s with secs := { s.secs with strayEdges := satInc 255 s.secs.strayEdges } }

/-- The stray-read count incremented, stopping at 255 (R29). -/
def State.countStrayRead (s : State) : State :=
  { s with line := { s.line with stray := satInc 255 s.line.stray } }

/-! ## Layout read from the stop map -/

/-- The section count S, 0 while the LOOP item is unset (R3). -/
def StopMap.sectionCount (m : StopMap) : Nat :=
  match m.loop with
  | some l => l.count
  | none => 0

/-- The effective admission limit, 0 while the LOOP item is unset (R3, R75). -/
def StopMap.admissionLimit (m : StopMap) : Nat :=
  match m.loop with
  | some l => if l.limit = 0 then l.count - 2 else l.limit
  | none => 0

/-- L_k, 0 while SECTION item k is unset. -/
def StopMap.sectionLen (m : StopMap) (k : SectionId) : Nat :=
  match tget m.sections k with
  | some i => i.len
  | none => 0

/-- The kind of a station in the map as it stands, absent for NONE. -/
def StopMap.kindOf (m : StopMap) (i : StationId) : Option Kind := (tget m.stations i).map (·.kind)

/-- X_s, 0 while STATION item s is unset. -/
def StopMap.exitLen (m : StopMap) (i : StationId) : Nat :=
  match tget m.stations i with
  | some x => x.exitLen
  | none => 0

/-- Y_s, 0 while STATION item s is unset. -/
def StopMap.approach (m : StopMap) (i : StationId) : Nat :=
  match tget m.stations i with
  | some x => x.approach
  | none => 0

/-- S of the present map. -/
def State.S (s : State) : Nat := s.map.sectionCount

/-- The section after k, (k+1) mod S (R3). -/
def State.nextSec (s : State) (k : SectionId) : SectionId := secOf ((k.val + 1) % s.S)

/-- The section before k, (k−1) mod S. -/
def State.prevSec (s : State) (k : SectionId) : SectionId := secOf ((k.val + s.S - 1) % s.S)

/-- The merge section of a station (R5). -/
def State.mergeSec (s : State) (i : StationId) : SectionId := s.nextSec (s.stn i).junction

/-- The station whose junction is section k, if any (R58). -/
def State.stationAt (s : State) (k : SectionId) : Option StationId :=
  allStations.find? fun i => (s.stn i).kind.isSome && (s.stn i).junction == k

/-! ## Answers and notices -/

/-- Notices in a transmit queue (R182). -/
def LinkUnit.noticeCount (u : LinkUnit) : Nat :=
  u.tx.countP fun m => match m.kind with | .notice _ => true | .answer _ => false

/-- A notice generated for a link: queued if one of the 12 notice places is free, dropped and counted otherwise (R182). -/
def LinkUnit.notice (u : LinkUnit) (m : TxMsg) : LinkUnit :=
  if u.noticeCount < Config.noticePlaces then { u with tx := u.tx ++ [m] }
  else { u with counts := { u.counts with dropped := satInc 255 u.counts.dropped } }

/-- A notice queued on a link (R183). -/
def State.notice (s : State) (l : Link) (k : NoticeKind) (tag : Byte) (body : List Byte) : State :=
  s.modLink l fun u => u.notice ⟨.notice k, tag, body⟩

/-- A request being taken: its link, tag and body (R179). -/
structure Req where
  link : Link
  tag  : Byte
  body : List Byte
  deriving DecidableEq, Repr

/-- An answer queued in the transmit queue of the request's link with its tag (R179); it always finds a place (R182). -/
def State.answer (s : State) (r : Req) (k : AnswerKind) (body : List Byte) : State :=
  s.modLink r.link fun u => { u with tx := u.tx ++ [⟨.answer k, r.tag, body⟩] }

/-- The next free value (log entry 4). -/
def State.free (s : State) : Byte := Config.freeByte s.freeCount

/-- The free values used so far, advanced by n. -/
def State.useFree (s : State) (n : Nat) : State := { s with freeCount := s.freeCount + n }

/-! ## Carrier records and candidates -/

/-- The stalled flag: set exactly while the stall kinds are not empty (R98). -/
def CarrierRec.stalled (r : CarrierRec) : Bool := r.stall.stretch.isSome || r.stall.tail

/-- In service: neither OUT nor UNKNOWN (R101). -/
def CarrierRec.inService (r : CarrierRec) : Bool := r.state != .out && r.state != .unknown

/-- The conditions of R143 for a loop candidate. -/
def CarrierRec.loopCandidate (r : CarrierRec) : Bool :=
  match r.place with
  | .loop _ => r.state == .returning && !r.stalled && !r.suspect && !r.retirePending
  | _ => false

/-- The conditions of R143 for a depot head. -/
def depotHead (s : State) (r : CarrierRec) : Bool :=
  match r.place with
  | .docked i => r.state == .idle && (s.stn i).kind == some .depot && !r.suspect && !r.retirePending
  | _ => false

/-- A candidate by R143. -/
def candidateRec (s : State) (r : CarrierRec) : Bool := r.loopCandidate || depotHead s r

/-- A carrier put in its place in an ascending list that lacks it (R141). -/
def insertCarrier (c : CarrierId) : List CarrierId → List CarrierId
  | [] => [c]
  | x :: xs => if c < x then c :: x :: xs else if c = x then x :: xs else x :: insertCarrier c xs

/-- A carrier record written, and reported to the dispatcher, which tests it against R143: the carrier joins or leaves the
candidate list, and joining it is a dispatch opportunity (R141, R144). -/
def State.setCar (s : State) (c : CarrierId) (r : CarrierRec) : State :=
  let isNow := candidateRec s r
  let was := s.disp.candidates.contains c
  { s with
    cars := { s.cars with recs := tset s.cars.recs c r }
    disp :=
      { candidates := if isNow then insertCarrier c s.disp.candidates else s.disp.candidates.filter (· != c)
        opportunity := s.disp.opportunity || (isNow && !was) } }

/-- A carrier record changed and reported. -/
def State.modCar (s : State) (c : CarrierId) (f : CarrierRec → CarrierRec) : State := s.setCar c (f (s.car c))

/-- A dispatch opportunity raised (R146). -/
def State.raiseOpportunity (s : State) : State := { s with disp := { s.disp with opportunity := true } }

/-- The destination changed; the go-around count becomes 0 at each change (R104). -/
def CarrierRec.setDest (r : CarrierRec) (d : Option StationId) : CarrierRec :=
  if r.dest = d then r else { r with dest := d, goArounds := 0 }

/-- The stalled count changed. -/
def State.setStalledCount (s : State) (n : Nat) : State := { s with cars := { s.cars with stalledCount := n } }

/-- The jog record written (R113). -/
def State.setJog (s : State) (j : Option Jog) : State := { s with cars := { s.cars with jog := j } }

/-- The queue indices of the carriers that rest in a station's spur, rewritten (R99). -/
def State.reindex (s : State) (i : StationId) : State :=
  (s.stn i).queue.zipIdx.foldl (fun s ci =>
    match (s.car ci.1).place with
    | .queue _ _ => s.modCar ci.1 fun r => { r with place := .queue i ci.2 }
    | _ => s) s

/-- The section a carrier holds OCCUPIED, if any (R56). -/
def State.occupiedBy (s : State) (c : CarrierId) : Option SectionId :=
  allSections.find? fun k => (s.sec k).st == .occupied c

/-- The station in whose spur queue a carrier is, or to which it is diverting (R105). -/
def State.spurOf (s : State) (c : CarrierId) : Option StationId :=
  match (s.car c).place with
  | .diverting i => some i
  | _ => allStations.find? fun i => (s.stn i).queue.contains c

/-- Carriers whose state is UNKNOWN (R174). -/
def State.unknownCount (s : State) : Nat := allCarriers.countP fun c => (s.car c).state == .unknown

/-! ## Orders -/

/-- The order with a ticket, if one is in the book (R126). -/
def State.orderOf (s : State) (t : Nat) : Option Order := s.book.orders.find? fun o => o.ticket == t

/-- The order with a ticket changed, in its place in the book. -/
def State.modOrder (s : State) (t : Nat) (f : Order → Order) : State :=
  { s with book := { s.book with orders := s.book.orders.map fun o => if o.ticket = t then f o else o } }

/-- The calls count of a station decremented, which is a dispatch opportunity (R78). -/
def State.dropCall (s : State) (i : StationId) : State :=
  (s.modStn i fun r => { r with calls := r.calls - 1 }).raiseOpportunity

end Sys2Proof.Machine
end

