-- ==== Sys2Proof/Machine/Operands.lean ====
section
/-! DEFINITION. The operand forms of the part: the bytes of a message and its check byte (R177, R186), the kind codes and the
permission table (R180), the reason codes (R181), the code of every enumerated field, the character framing (R175), and the
items of the stop map as MAP_WRITE and MAP_READ carry them (R14, R15). -/

namespace Sys2Proof.Machine

/-! ## Bytes and characters -/

/-- A number in one byte. -/
def byte1 (n : Nat) : Byte := BitVec.ofNat 8 n

/-- A number in two bytes, the more significant first (R186). -/
def byte2 (n : Nat) : List Byte := [byte1 (n / 256), byte1 n]

/-- The number in two bytes, the more significant first. -/
def word2 (hi lo : Byte) : Nat := hi.toNat * 256 + lo.toNat

/-- A flag in one byte. -/
def flagByte (b : Bool) : Byte := if b then 1#8 else 0#8

/-- The check byte of a message with these kind, tag, length and body bytes (R186). -/
def checkByte (bytes : List Byte) : Byte := 0#8 - bytes.foldl (· + ·) 0#8

/-- The envelope of a message (R186). -/
def envelope (kind tag : Byte) (body : List Byte) : List Byte :=
  let inner := kind :: tag :: byte1 body.length :: body
  Config.markByte :: inner ++ [checkByte inner]

/-- The bit rate of a rate strap code (R175). -/
def bitRate (s : Straps) : Nat :=
  [2400, 4800, 9600, 19200, 38400, 57600, 76800, 115200].getD s.rate.val 0

/-- Whether parity is strapped on: codes 1 (even) and 2 (odd) (R175). -/
def parityOn (s : Straps) : Bool := s.parity == 1 || s.parity == 2

/-- Bits of one character: 11 with parity and 10 without (R175). -/
def charBits (s : Straps) : Nat := if parityOn s then 11 else 10

/-- One character on the line, true for mark: start bit, 8 data bits with the least significant first, the parity bit when
parity is strapped on, stop bit (R175). -/
def frameBits (s : Straps) (b : Byte) : List Bool :=
  let data := (List.range 8).map fun i => b.getLsbD i
  let odd := data.countP id % 2 == 1
  let parity := if s.parity == 1 then [odd] else if s.parity == 2 then [!odd] else []
  false :: data ++ parity ++ [true]

/-! ## Station, carrier and section numbers -/

/-- The station number of the manual, 1..12. -/
def stationNum (i : StationId) : Nat := i.val + 1

/-- The station with a number 1..12. -/
def stationOf (n : Nat) : Option StationId := if h : 1 ≤ n ∧ n ≤ 12 then some ⟨n - 1, by omega⟩ else none

/-- The carrier with a number 0..15. -/
def carrierOf (n : Nat) : Option CarrierId := if h : n < 16 then some ⟨n, h⟩ else none

/-- The section with a number 0..31. -/
def sectionOf (n : Nat) : Option SectionId := if h : n < 32 then some ⟨n, h⟩ else none

/-- A carrier field: 0..15, or FFh for none (R97). -/
def carrierByte : Option CarrierId → Byte
  | some c => byte1 c.val
  | none => 0xFF#8

/-- A station field: 1..12, or 0 for none (R75). -/
def stationByte : Option StationId → Byte
  | some i => byte1 (stationNum i)
  | none => 0#8

/-! ## Kinds, permissions and reasons -/

/-- The request kinds (R180). -/
inductive ReqKind where
  | place
  | cancel
  | expedite
  | taken
  | query
  | loaded
  | short
  | endorse
  | closeStation
  | openStation
  | setMode
  | settle
  | resume
  | recover
  | survey
  | reset
  | clearCause
  | admitCarrier
  | retire
  | clearCarrier
  | jog
  | mapOpen
  | mapWrite
  | mapRead
  | mapClose
  | readTrack
  | readSection
  | readStation
  | readCarrier
  | readLines
  | readLink
  deriving DecidableEq, Repr

/-- The code of a request kind (R180). -/
def ReqKind.code : ReqKind → Byte
  | .place => 0x01#8
  | .cancel => 0x02#8
  | .expedite => 0x03#8
  | .taken => 0x04#8
  | .query => 0x05#8
  | .loaded => 0x06#8
  | .short => 0x07#8
  | .endorse => 0x08#8
  | .closeStation => 0x09#8
  | .openStation => 0x0A#8
  | .setMode => 0x10#8
  | .settle => 0x11#8
  | .resume => 0x12#8
  | .recover => 0x13#8
  | .survey => 0x14#8
  | .reset => 0x15#8
  | .clearCause => 0x16#8
  | .admitCarrier => 0x18#8
  | .retire => 0x19#8
  | .clearCarrier => 0x1A#8
  | .jog => 0x1B#8
  | .mapOpen => 0x20#8
  | .mapWrite => 0x21#8
  | .mapRead => 0x22#8
  | .mapClose => 0x23#8
  | .readTrack => 0x28#8
  | .readSection => 0x29#8
  | .readStation => 0x2A#8
  | .readCarrier => 0x2B#8
  | .readLines => 0x2C#8
  | .readLink => 0x2D#8

/-- Every request kind, in code order. -/
def allReqKinds : List ReqKind :=
  [.place, .cancel, .expedite, .taken, .query, .loaded, .short, .endorse, .closeStation, .openStation, .setMode, .settle,
    .resume, .recover, .survey, .reset, .clearCause, .admitCarrier, .retire, .clearCarrier, .jog, .mapOpen, .mapWrite,
    .mapRead, .mapClose, .readTrack, .readSection, .readStation, .readCarrier, .readLines, .readLink]

/-- The request kind with a code, if the code is a request's (R179, R180). -/
def ReqKind.ofCode (b : Byte) : Option ReqKind := allReqKinds.find? fun k => k.code == b

/-- The permission table (R180): the service link may make every request. -/
def ReqKind.permitted (k : ReqKind) : Link → Bool
  | .service => true
  | .counter =>
    match k with
    | .place | .cancel | .expedite | .taken | .query | .readSection | .readCarrier | .readLink => true
    | _ => false
  | .stock =>
    match k with
    | .query | .loaded | .short | .closeStation | .openStation | .readSection | .readStation | .readCarrier | .readLink => true
    | _ => false

/-- The code of a message the part sends (R180). -/
def MsgKind.code : MsgKind → Byte
  | .answer .done => 0x80#8
  | .answer .deferred => 0x81#8
  | .answer .busy => 0x82#8
  | .answer .refused => 0x83#8
  | .notice .completion => 0xC0#8
  | .notice .arrived => 0xC1#8
  | .notice .loadCall => 0xC2#8
  | .notice .held => 0xC3#8
  | .notice .stall => 0xC4#8
  | .notice .fault => 0xC5#8
  | .notice .mode => 0xC6#8
  | .notice .restarted => 0xC7#8
  | .notice .circling => 0xC8#8

/-- The characters a message of the transmit queue is sent as (R177, R182). -/
def TxMsg.bytes (m : TxMsg) : List Byte := envelope m.kind.code m.tag m.body

/-- The reasons of a BUSY answer (R181). -/
inductive Busy where
  | full
  | notReady
  | mapEdit
  | mode
  | inProgress
  deriving DecidableEq, Repr

/-- The code of a BUSY reason (R181). -/
def Busy.code : Busy → Byte
  | .full => 1#8
  | .notReady => 2#8
  | .mapEdit => 3#8
  | .mode => 4#8
  | .inProgress => 5#8

/-- The reasons of a REFUSED answer (R181); BAD_MAP carries group code, item index and check number (R16). -/
inductive Reason where
  | notPermitted
  | badFormat
  | badValue
  | noWindow
  | noSource
  | noSuch
  | wrongState
  | tooLate
  | faulted
  | badMap (group index check : Nat)
  deriving DecidableEq, Repr

/-- The body of a REFUSED answer (R181). -/
def Reason.body : Reason → List Byte
  | .notPermitted => [1#8]
  | .badFormat => [2#8]
  | .badValue => [3#8]
  | .noWindow => [4#8]
  | .noSource => [5#8]
  | .noSuch => [6#8]
  | .wrongState => [7#8]
  | .tooLate => [8#8]
  | .faulted => [9#8]
  | .badMap g i c => [10#8, byte1 g, byte1 i, byte1 c]

/-- DONE with a result body (R181). -/
def State.done (s : State) (r : Req) (body : List Byte) : State := s.answer r .done body

/-- DEFERRED (R181). -/
def State.deferred (s : State) (r : Req) (body : List Byte) : State := s.answer r .deferred body

/-- BUSY with its reason (R181). -/
def State.busy (s : State) (r : Req) (b : Busy) : State := s.answer r .busy [b.code]

/-- REFUSED with its reason (R181). -/
def State.refuse (s : State) (r : Req) (x : Reason) : State := s.answer r .refused x.body

/-! ## Codes of enumerated fields -/

/-- The map state's code (R15). -/
def MapState.code : MapState → Nat
  | .invalid => 0
  | .edit => 1
  | .valid => 2

/-- A station kind's code (R14). -/
def kindCode : Option Kind → Nat
  | none => 0
  | some .stock => 1
  | some .counter => 2
  | some .depot => 3

/-- The station kind with a code 1..3 (R14). -/
def kindOfCode : Nat → Option Kind
  | 1 => some .stock
  | 2 => some .counter
  | 3 => some .depot
  | _ => none

/-- A polarity's code (R14). -/
def Polarity.code : Polarity → Nat
  | .activeHigh => 0
  | .activeLow => 1

/-- The polarity with a code (R14). -/
def polarityOf : Nat → Option Polarity
  | 0 => some .activeHigh
  | 1 => some .activeLow
  | _ => none

/-- A mode's code in the MODE notice and READ_TRACK (R155). -/
def Mode.code : Mode → Nat
  | .park => 0
  | .warmup => 1
  | .run => 2
  | .slow => 3
  | .hold => 4
  | .survey => 5

/-- A fault kind's code (R163). -/
def FaultKind.code : FaultKind → Nat
  | .unexpectedEntry => 1
  | .tagMismatch => 2
  | .stallLimit => 3
  | .driveFail => 4
  | .removedUnexpected => 5
  | .surveyFail => 6

/-- The place kind of a fault: 0 section, 1 station, FFh none (R164). -/
def FaultPlace.kindByte : FaultPlace → Byte
  | .sectionAt _ => 0#8
  | .station _ => 1#8
  | .none => 0xFF#8

/-- The place number of a fault; the manual gives none for a fault without a place, so `free` is read there (log entry 4). -/
def FaultPlace.numberByte (free : Byte) : FaultPlace → Byte
  | .sectionAt k => byte1 k.val
  | .station i => byte1 (stationNum i)
  | .none => free

/-- A carrier state's code (R115). -/
def CarState.code : CarState → Nat
  | .out => 0
  | .unknown => 1
  | .idle => 2
  | .called => 3
  | .loading => 4
  | .delivering => 5
  | .presenting => 6
  | .returning => 7
  | .removing => 8

/-- The place kind of a carrier (R115). -/
def Place.kindCode : Place → Nat
  | .none => 0
  | .loop _ => 1
  | .diverting _ => 2
  | .queue _ _ => 3
  | .docked _ => 4
  | .launching _ => 5

/-- The place number of a carrier: the section for a loop place, the station otherwise, FFh for none (R115). -/
def Place.numberByte : Place → Byte
  | .none => 0xFF#8
  | .loop k => byte1 k.val
  | .diverting i => byte1 (stationNum i)
  | .queue i _ => byte1 (stationNum i)
  | .docked i => byte1 (stationNum i)
  | .launching i => byte1 (stationNum i)

/-- The stretch kind's code (R115). -/
def Stretch.code : Stretch → Nat
  | .none => 0
  | .loop _ => 1
  | .divert _ => 2
  | .launch _ => 3
  | .dock _ => 4

/-- An order class's code (R122). -/
def OrderClass.code : OrderClass → Nat
  | .rush => 0
  | .standard => 1
  | .bulk => 2

/-- The order class with a code (R122). -/
def classOf : Nat → Option OrderClass
  | 0 => some .rush
  | 1 => some .standard
  | 2 => some .bulk
  | _ => none

/-- An order state's code (R139). -/
def OrderState.code : OrderState → Nat
  | .held => 0
  | .queued => 1
  | .assigned => 2
  | .atStock => 3
  | .toCounter => 4
  | .atCounter => 5

/-- A line status's code (R139). -/
def LineStatus.code : LineStatus → Nat
  | .pending => 0
  | .loaded => 1
  | .short => 2

/-- An origin's code (R139, R140). -/
def Origin.code : Origin → Nat
  | .counter => 0
  | .service => 1

/-- The link of an origin. -/
def Origin.link : Origin → Link
  | .counter => .counter
  | .service => .service

/-- The origin of an order placed on a link; PLACE is permitted on the counter link and the service link alone (R122). -/
def originOf : Link → Origin
  | .counter => .counter
  | _ => .service

/-- A link's code in READ_LINK (R184). -/
def Link.code : Link → Nat
  | .counter => 0
  | .stock => 1
  | .service => 2

/-- The link with a code (R184). -/
def linkOfCode : Nat → Option Link
  | 0 => some .counter
  | 1 => some .stock
  | 2 => some .service
  | _ => none

/-! ## The items of the stop map -/

/-- An item of the stop map, by group and index (R1). -/
inductive ItemRef where
  | loop
  | sectionAt (k : SectionId)
  | station (i : StationId)
  | window (w : Fin 16)
  | bin (e : Fin 8)
  | param (p : Fin 12)
  deriving DecidableEq, Repr

/-- The item with a group code 1..6 and an index within the group's range (R1). -/
def itemRef (group index : Nat) : Option ItemRef :=
  match group with
  | 1 => if index = 0 then some .loop else none
  | 2 => (sectionOf index).map .sectionAt
  | 3 => (stationOf index).map .station
  | 4 => if h : 1 ≤ index ∧ index ≤ 16 then some (.window ⟨index - 1, by omega⟩) else none
  | 5 => if h : index < 8 then some (.bin ⟨index, h⟩) else none
  | 6 => if h : 1 ≤ index ∧ index ≤ 12 then some (.param ⟨index - 1, by omega⟩) else none
  | _ => none

/-- The body length of a MAP_WRITE of an item (R14, step 3). -/
def ItemRef.bodyLen : ItemRef → Nat
  | .loop => 4
  | .sectionAt _ => 5
  | .station _ => 11
  | .window _ => 3
  | .bin _ => 8
  | .param p => if p.val = 4 ∨ p.val = 5 then 4 else 3

/-- A layout item is written only in EDIT (R14, step 4). -/
def ItemRef.layout : ItemRef → Bool
  | .loop | .sectionAt _ | .station _ => true
  | .window _ | .bin _ | .param _ => false

/-- The value of one item, its fields within their own ranges. -/
inductive ItemVal where
  | loop (x : LoopItem)
  | sectionAt (k : SectionId) (x : SectionItem)
  | station (i : StationId) (x : Option StationItem)
  | window (w : Fin 16) (x : Option StationId)
  | bin (e : Fin 8) (x : Option BinRange)
  /-- A parameter other than 5 and 6. -/
  | number (p : Fin 12) (x : Nat)
  | runRate (x : Rate)
  | slowRate (x : Rate)
  deriving DecidableEq, Repr

/-- The range of a parameter other than 5 and 6, by its index (R8). -/
def paramRange (p : Fin 12) : Nat × Nat :=
  [(0, 50), (0, 10), (8, 255), (8, 255), (0, 0), (0, 0), (1, 7), (1, 8), (1, 255), (0, 255), (1, 255), (0, 15)].getD p.val (0, 0)

/-- The LOOP item with its fields in range (R3). -/
def parseLoop (count limit : Nat) : Option LoopItem :=
  if 8 ≤ count ∧ count ≤ 32 ∧ limit ≤ count - 2 then some ⟨count, limit⟩ else none

/-- A SECTION item with its fields in range (R4). -/
def parseSection (len pol : Nat) : Option SectionItem :=
  if 32 ≤ len ∧ len ≤ 4095 then (polarityOf pol).map fun p => ⟨len, p⟩ else none

/-- The capacity range of a kind (R5). -/
def Kind.maxCapacity : Kind → Nat
  | .depot => 8
  | .stock | .counter => 3

/-- A STATION item whose kind is not NONE, with its fields in range (R5). -/
def parseStation (kind : Kind) (junction capacity exitLen approach polEntry polDock : Nat) : Option StationItem :=
  match sectionOf junction, polarityOf polEntry, polarityOf polDock with
  | some j, some pe, some pd =>
    if 1 ≤ capacity ∧ capacity ≤ kind.maxCapacity ∧ 16 ≤ exitLen ∧ exitLen ≤ 1023 ∧ 16 ≤ approach ∧ approach ≤ 1023 then
      some ⟨kind, j, capacity, exitLen, approach, pe, pd⟩
    else none
  | _, _, _ => none

/-- A BIN_RANGE item that names a station, with its fields in range (R7). -/
def parseBin (first last : Nat) (station : StationId) (flag : Nat) : Option BinRange :=
  if first ≤ last ∧ last ≤ 4095 ∧ flag ≤ 1 then some ⟨first, last, station, flag == 1⟩ else none

/-- The value a MAP_WRITE's fields give an item; none if a field is outside its own range (R14, step 5; R3 to R8). -/
def parseItem : ItemRef → List Byte → Option ItemVal
  | .loop, [c, a] => (parseLoop c.toNat a.toNat).map .loop
  | .sectionAt k, [h, l, p] => (parseSection (word2 h l) p.toNat).map (.sectionAt k)
  | .station i, [k, j, c, xh, xl, yh, yl, pe, pd] =>
    if k.toNat = 0 then some (.station i none)
    else
      match kindOfCode k.toNat with
      | some kd =>
        (parseStation kd j.toNat c.toNat (word2 xh xl) (word2 yh yl) pe.toNat pd.toNat).map fun x => .station i (some x)
      | none => none
  | .window w, [x] => if x.toNat = 0 then some (.window w none) else (stationOf x.toNat).map fun i => .window w (some i)
  | .bin e, [fh, fl, lh, ll, x, r] =>
    if x.toNat = 0 then some (.bin e none)
    else
      match stationOf x.toNat with
      | some i => (parseBin (word2 fh fl) (word2 lh ll) i r.toNat).map fun b => .bin e (some b)
      | none => none
  | .param p, [x] =>
    if p.val = 4 ∨ p.val = 5 then none
    else if (paramRange p).1 ≤ x.toNat ∧ x.toNat ≤ (paramRange p).2 then some (.number p x.toNat) else none
  | .param p, [c, d] =>
    if c.toNat ≤ 7 ∧ d.toNat ≤ 254 then
      if p.val = 4 then some (.runRate ⟨c.toNat, d.toNat⟩)
      else if p.val = 5 then some (.slowRate ⟨c.toNat, d.toNat⟩)
      else none
    else none
  | _, _ => none

/-- A parameter other than 5 and 6, by its index (R8). -/
def Params.number (m : Params) (p : Fin 12) : Nat :=
  [m.slack, m.loadMargin, m.carrierLen, m.guard, 0, 0, m.goAround, m.stallLimit, m.aging, m.autopark, m.warmup, m.filter].getD
    p.val 0

/-- A parameter other than 5 and 6 written, by its index (R8). -/
def Params.setNumber (m : Params) (p : Fin 12) (x : Nat) : Params :=
  match p.val with
  | 0 => { m with slack := x }
  | 1 => { m with loadMargin := x }
  | 2 => { m with carrierLen := x }
  | 3 => { m with guard := x }
  | 6 => { m with goAround := x }
  | 7 => { m with stallLimit := x }
  | 8 => { m with aging := x }
  | 9 => { m with autopark := x }
  | 10 => { m with warmup := x }
  | 11 => { m with filter := x }
  | _ => m

/-- The fields of an item as MAP_READ gives them (R15). -/
def StopMap.fields (m : StopMap) : ItemRef → List Byte
  | .loop =>
    match m.loop with
    | some x => [byte1 x.count, byte1 x.limit]
    | none => [0#8, 0#8]
  | .sectionAt k =>
    match tget m.sections k with
    | some x => byte2 x.len ++ [byte1 x.pol.code]
    | none => [0#8, 0#8, 0#8]
  | .station i =>
    match tget m.stations i with
    | some x =>
      [byte1 (kindCode (some x.kind)), byte1 x.junction.val, byte1 x.capacity] ++ byte2 x.exitLen ++ byte2 x.approach ++
        [byte1 x.polEntry.code, byte1 x.polDock.code]
    | none => List.replicate 9 0#8
  | .window w => [stationByte (tget m.windows w)]
  | .bin e =>
    match tget m.bins e with
    | some x => byte2 x.first ++ byte2 x.last ++ [byte1 (stationNum x.station), flagByte x.restricted]
    | none => List.replicate 6 0#8
  | .param p =>
    if p.val = 4 then [byte1 m.params.runRate.code, byte1 m.params.runRate.reload]
    else if p.val = 5 then [byte1 m.params.slowRate.code, byte1 m.params.slowRate.reload]
    else [byte1 (m.params.number p)]

/-- The map with one item written (R14). -/
def StopMap.write (m : StopMap) : ItemVal → StopMap
  | .loop x => { m with loop := some x }
  | .sectionAt k x => { m with sections := tset m.sections k (some x) }
  | .station i x => { m with stations := tset m.stations i x }
  | .window w x => { m with windows := tset m.windows w x }
  | .bin e x => { m with bins := tset m.bins e x }
  | .number p x => { m with params := m.params.setNumber p x }
  | .runRate x => { m with params := { m.params with runRate := x } }
  | .slowRate x => { m with params := { m.params with slowRate := x } }

/-! ## Lookups (R18, R19) -/

/-- The window lookup: the COUNTER station of a window, none for "no window" (R18). -/
def StopMap.windowLookup (m : StopMap) (w : Nat) : Option StationId :=
  if h : 1 ≤ w ∧ w ≤ 16 then tget m.windows ⟨w - 1, by omega⟩ else none

/-- The bin lookup: the first item in ascending index that contains the bin, none for "no source" (R19). -/
def StopMap.binLookup (m : StopMap) (bin : Nat) : Option BinRange :=
  (m.bins.toList.filterMap id).find? fun b => decide (b.first ≤ bin ∧ bin ≤ b.last)

end Sys2Proof.Machine
end

