-- ==== Sys2Proof/Machine/Flags.lean ====
section
/-! DEFINITION. The flags the part computes: the logical state of a sensor (R22), READY (R178), the divisor a mode gives the
step generator (R37), the section drive rule (R72) and the spur drive rule (R84), and flags packed into bytes (R34). -/

namespace Sys2Proof.Machine

/-! ## Sensors -/

/-- The polarity of a sensor: that of its item, active high when the item is unset and for DRIVE_READY (R22, R1). The line unit is told
the polarity of E_k when SECTION item k is written (R4), so E_k has it for k numbered S or above too, in use or not (R22, R34), though no
block reads such an item (R1): this reading of the four rules together is the model's (DEDUCED, log entry 15). -/
def StopMap.polarity (m : StopMap) : Sensor → Polarity
  | .entry k => ((tget m.sections k).map (·.pol)).getD .activeHigh
  | .spurEntry i => ((tget m.stations i).map (·.polEntry)).getD .activeHigh
  | .dock i => ((tget m.stations i).map (·.polDock)).getD .activeHigh
  | .driveReady => .activeHigh

/-- Whether a level is active under a polarity (R22). -/
def Polarity.active (p : Polarity) (level : Bool) : Bool :=
  match p with
  | .activeHigh => level
  | .activeLow => !level

/-- The filter of a sensor. -/
def State.filter (s : State) (x : Sensor) : Filter := tget s.line.filters (sensorIndex x)

/-- The logical state of a sensor, true for active (R22). -/
def State.active (s : State) (x : Sensor) : Bool := (s.map.polarity x).active (s.filter x).accepted

/-- Whether a sensor is in use (R20). -/
def State.inUse (s : State) : Sensor → Bool
  | .entry k => s.map.loop.isSome && decide (k.val < s.S)
  | .spurEntry i => (s.map.kindOf i).isSome
  | .dock i => (s.map.kindOf i).isSome
  | .driveReady => true

/-- Whether the events of a sensor are delivered when they are produced (R13, R20). -/
def State.delivers (s : State) (x : Sensor) : Bool :=
  x == .driveReady || (s.inUse x && s.map.state == .valid)

/-- The reader of a sensor that carries one (R20). -/
def readerOf : Sensor → Option ReaderId
  | .entry k => some ⟨k.val, by omega⟩
  | .dock i => some ⟨32 + i.val, by omega⟩
  | .spurEntry _ => none
  | .driveReady => none

/-- The sensor that carries a reader (R20). -/
def sensorOfReader (r : ReaderId) : Sensor :=
  if h : r.val < 32 then .entry ⟨r.val, h⟩ else .dock ⟨r.val - 32, by omega⟩

/-! ## Links -/

/-- READY: asserted while fewer than 3 requests are held (R178). -/
def LinkUnit.ready (u : LinkUnit) : Bool := decide (u.held.length < 3)

/-! ## Step generator -/

/-- The divisor of a rate, 2^code × (256 − D) (R36). -/
def Rate.divisor (r : Rate) : Nat := 2 ^ r.code * (256 - r.reload)

/-- The divisor the mode and the jog give the generator, none for stopped (R37). -/
def generatorDivisor (p : Params) (m : Mode) (jogging : Bool) : Option Nat :=
  match m with
  | .run => some p.runRate.divisor
  | .slow => some p.slowRate.divisor
  | .survey => some p.slowRate.divisor
  | .hold => if jogging then some p.slowRate.divisor else none
  | .warmup => if jogging then some p.slowRate.divisor else none
  | .park => none

/-- The divisor R37 gives in the present state. -/
def State.divisor (s : State) : Option Nat := generatorDivisor s.map.params s.track.mode s.cars.jog.isSome

/-! ## Drives -/

/-- The modes in which the drives may be enabled (R72, R84). -/
def Mode.drives : Mode → Bool
  | .run | .slow | .survey => true
  | .park | .warmup | .hold => false

/-- DRIVE_ON by mode (R155). -/
def Mode.driveOn : Mode → Bool
  | .park => false
  | .warmup | .run | .slow | .hold | .survey => true

/-- The modes in which the dispatcher runs its passes (R146). -/
def Mode.dispatches : Mode → Bool
  | .run | .slow => true
  | .park | .warmup | .hold | .survey => false

/-- The sweep is in progress: its drives, edges and reads belong to the survey (R169). -/
def State.sweeping (s : State) : Bool :=
  s.track.mode == .survey &&
    match s.track.survey with
    | some v => v.phase == .sweep
    | none => false

/-- A carrier holds its reservation ahead while its front is in section k: the next section RESERVED for it, or a spur place
recorded on k (R72). -/
def State.reservedAhead (s : State) (k : SectionId) (c : CarrierId) : Bool :=
  (s.sec k).spurPlace.isSome ||
    match (s.sec (s.nextSec k)).st with
    | .reserved d _ => d == c
    | _ => false

/-- A carrier's count is below its stop point (R72). -/
def Passage.belowStop (p : Passage) : Bool :=
  match p.stopPoint with
  | some pt => decide (p.n < pt)
  | none => false

/-- The drive-enable rule of section k (R72); during the sweep every section of the loop is held active (R74). -/
def State.driveEnabled (s : State) (k : SectionId) : Bool :=
  if s.sweeping then decide (k.val < s.S)
  else
    match (s.sec k).st with
    | .occupied c =>
      !(s.car c).stalled && s.track.mode.drives && (s.reservedAhead k c || (s.car c).passage.belowStop)
    | _ => false

/-- The clearing state of a station, none when no survey runs (R172). -/
def State.clearingOf (s : State) (i : StationId) : Clearing :=
  match s.track.survey with
  | some v => tget v.clearing i
  | none => .none

/-- A station is DRIVING in the clearing phase (R172). -/
def State.driving (s : State) (i : StationId) : Bool :=
  match s.clearingOf i with
  | .driving _ _ _ => true
  | _ => false

/-- The spur drive rule of a station (R84); while it is DRIVING in SURVEY the survey holds Q_s active (R172). -/
def State.spurEnabled (s : State) (i : StationId) : Bool :=
  s.track.mode.drives && !((s.stn i).queue.any fun c => (s.car c).stalled) &&
    ((s.stn i).launchGranted || (s.stn i).entryPending.isSome || (s.stn i).movingUp.isSome ||
      (s.track.mode == .survey && s.driving i))

/-- The drive-enable rule applied to section k (R72). -/
def State.applyDrive (s : State) (k : SectionId) : State :=
  s.modLatches fun l => { l with d := tset l.d k (s.driveEnabled k) }

/-- The spur drive rule applied to a station (R84). -/
def State.applySpur (s : State) (i : StationId) : State :=
  s.modLatches fun l => { l with q := tset l.q i (s.spurEnabled i) }

/-- The drive-enable rule applied to every section and the spur drive rule to every station (R155). -/
def State.applyAll (s : State) : State :=
  s.modLatches fun l => { l with d := Vector.ofFn fun k => s.driveEnabled k, q := Vector.ofFn fun i => s.spurEnabled i }

/-- Diverter V_s written (R30). -/
def State.setV (s : State) (i : StationId) (b : Bool) : State := s.modLatches fun l => { l with v := tset l.v i b }

/-- Launch gate G_s written (R30). -/
def State.setG (s : State) (i : StationId) (b : Bool) : State := s.modLatches fun l => { l with g := tset l.g i b }

/-! ## Packed flags -/

/-- Up to eight flags in one byte, the first at the least significant bit (R34). -/
def packByte (bs : List Bool) : Byte := byte1 (bs.foldr (fun b n => (if b then 1 else 0) + 2 * n) 0)

/-- Flags in n bytes, the first at the least significant bit of the first byte (R34). -/
def packBits : Nat → List Bool → List Byte
  | 0, _ => []
  | n + 1, bs => packByte (bs.take 8) :: packBits n (bs.drop 8)

end Sys2Proof.Machine
end

