-- ==== Sys2Proof/Machine/Passage.lean ====
section
/-! DEFINITION. The passage record: budgets and trail budgets (R43, R48), the beginning, continuing and ending of stretches
(R41, R42, R44), the arming and ending of a trail watch (R48, R49), and the restart of either (R50). -/

namespace Sys2Proof.Machine

/-- The budget factor F = 100 + σ + μ × λ (R43). -/
def Params.factor (p : Params) (load : Nat) : Nat := 100 + p.slack + p.loadMargin * load

/-- The budget of a stretch of a length (R43). -/
def Params.budget (p : Params) (load len : Nat) : Nat := min 4095 ((len * p.factor load + 99) / 100)

/-- The trail budget of a watch (R48). -/
def Params.trailBudget (p : Params) (load : Nat) : Nat := p.budget load p.carrierLen

/-- A stretch begun (R42). -/
def Passage.begin (p : Passage) (x : Stretch) (n budget : Nat) (stop : Option Nat) : Passage :=
  { p with stretch := x, n := n, budget := budget, stopPoint := stop, overrun := false }

/-- The running stretch ended: no stretch runs (R40, R41). Overrun raised becomes no, which no rule says (DESIGN CHOICE, log entry 8). -/
def Passage.endStretch (p : Passage) : Passage := p.begin .none 0 0 none

/-- A trail watch armed (R48). -/
def Passage.arm (p : Passage) (w : Watch) (t budget : Nat) : Passage :=
  { p with watch := some w, t := t, trailBudget := budget, tailOverrun := false }

/-- The trail watch ended, t and T kept for READ_CARRIER (R49). Tail overrun raised stays as it stood until the next arming: R49 does not
say what becomes of it (DESIGN CHOICE, log entry 8). -/
def Passage.disarm (p : Passage) : Passage := { p with watch := none }

/-- A LOOP stretch in section k begun with a starting count (R42, R44). -/
def CarrierRec.beginLoop (m : StopMap) (r : CarrierRec) (k : SectionId) (n : Nat) : CarrierRec :=
  let len := m.sectionLen k
  { r with passage := r.passage.begin (.loop k) n (m.params.budget r.load len) (some (len - m.params.guard)) }

/-- The LOOP stretch continued as DIVERT to a station (R42). -/
def CarrierRec.divert (r : CarrierRec) (i : StationId) : CarrierRec :=
  { r with passage := { r.passage with stretch := .divert i } }

/-- A LAUNCH stretch from a station begun (R41, R42). -/
def CarrierRec.beginLaunch (m : StopMap) (r : CarrierRec) (i : StationId) : CarrierRec :=
  { r with passage := r.passage.begin (.launch i) 0 (m.params.budget r.load (m.exitLen i)) none }

/-- A DOCK stretch at a station begun (R41, R42). -/
def CarrierRec.beginDock (m : StopMap) (r : CarrierRec) (i : StationId) : CarrierRec :=
  { r with passage := r.passage.begin (.dock i) 0 (m.params.budget r.load (m.approach i)) none }

/-- The running stretch ended (R41). -/
def CarrierRec.endStretch (r : CarrierRec) : CarrierRec := { r with passage := r.passage.endStretch }

/-- A trail watch armed with a starting count (R48, R53). -/
def CarrierRec.arm (m : StopMap) (r : CarrierRec) (w : Watch) (t : Nat) : CarrierRec :=
  { r with passage := r.passage.arm w t (m.params.trailBudget r.load) }

/-- The trail watch ended if it watches the sensor (R49). -/
def CarrierRec.disarm (r : CarrierRec) (w : Watch) : CarrierRec :=
  if r.passage.watch = some w then { r with passage := r.passage.disarm } else r

/-- The length and the stop-point base of a stretch: L_k for LOOP and DIVERT, X_s for LAUNCH, Y_s for DOCK (R50). -/
def Stretch.length (m : StopMap) : Stretch → Nat
  | .none => 0
  | .loop k => m.sectionLen k
  | .divert i => ((tget m.stations i).map fun x => m.sectionLen x.junction).getD 0
  | .launch i => m.exitLen i
  | .dock i => m.approach i

/-- Whether a stretch has a stop point (R44). -/
def Stretch.hasStop : Stretch → Bool
  | .loop _ | .divert _ => true
  | .none | .launch _ | .dock _ => false

/-- The running stretch restarted from its full length (R50). -/
def CarrierRec.restartStretch (m : StopMap) (r : CarrierRec) : CarrierRec :=
  let x := r.passage.stretch
  let len := x.length m
  { r with passage := r.passage.begin x 0 (m.params.budget r.load len) (if x.hasStop then some (len - m.params.guard) else none) }

/-- The trail watch restarted on the same sensor (R50). -/
def CarrierRec.restartWatch (m : StopMap) (r : CarrierRec) : CarrierRec :=
  match r.passage.watch with
  | some w => r.arm m w 0
  | none => r

/-- The latch of the output that drives a stretch (R46). -/
def State.stretchLatch (s : State) (l : Latches) : Stretch → Bool
  | .none => false
  | .loop k => tget l.d k
  | .divert i => tget l.d (s.stn i).junction
  | .launch i => tget l.q i
  | .dock i => tget l.q i

/-- The latch of the output that drives a carrier past its watched sensor (R49). -/
def watchLatch (l : Latches) : Option Watch → Bool
  | none => false
  | some (.entry k) => tget l.d k
  | some (.spur i) => tget l.q i

end Sys2Proof.Machine
end

