-- ==== Sys2Proof/Machine/Track.lean ====
section
/-! DEFINITION. Track control: a change of mode (R155), the completions it owes (R158, R174), the raising of a fault (R163,
R164), the aborting of a jog (R114) and of a survey (R174), the wake (R162) and the autopark countdown (R161). -/

namespace Sys2Proof.Machine

/-- The outcome codes of a COMPLETION (R186). -/
inductive Ending where
  | done
  | delivered
  | cancelled
  | shorted
  | failed
  | aborted
  deriving DecidableEq, Repr

/-- The code of an outcome (R186). -/
def Ending.code : Ending → Byte
  | .done => 0#8
  | .delivered => 1#8
  | .cancelled => 2#8
  | .shorted => 3#8
  | .failed => 4#8
  | .aborted => 5#8

/-- The step generator started or stopped as R37 gives; an interval in progress keeps its divisor (R38). -/
def State.setGen (s : State) : State :=
  { s with gen := ⟨s.divisor.map fun d => s.gen.interval.getD d⟩ }

/-- A running jog ended, with its COMPLETION: DONE if its last step has been delivered, ABORTED otherwise (R114). -/
def State.endJog (s : State) : State :=
  match s.cars.jog with
  | some j =>
    (s.setJog none).notice .service .completion j.tag
      [ReqKind.jog.code, (if j.remaining = 0 then Ending.done else Ending.aborted).code, byte1 j.delivered]
  | none => s

/-- A change of mode (R155). At a change into PARK that ends a running jog, the MODE notice is queued before the jog's COMPLETION
ABORTED: R155 lists the jog's end apart from its ordered changes and R114 gives no order, so this order is the model's choice
(DESIGN CHOICE, log entry 6). -/
def State.changeMode (s : State) (m : Mode) : State :=
  let old := s.track.mode
  if old = m then s
  else
    let s := s.modTrack fun t => { t with mode := m }
    let s := s.modLatches fun l => { l with driveOn := m.driveOn }
    let s := s.setGen
    let s := s.applyAll
    let s := s.notice .service .mode 0#8
      [byte1 m.code, byte1 old.code, flagByte s.track.autoParked, flagByte s.track.faultFlag]
    let s := if m.dispatches then s.raiseOpportunity else s
    if m = .park then s.endJog else s

/-- The mode becomes WARMUP: the warm-up count becomes 0 and takes the W in force (R159). -/
def State.enterWarmup (s : State) : State :=
  (s.modTrack fun t => { t with warmCount := 0, warmW := s.map.params.warmup }).changeMode .warmup

/-- The mode of the speed selector (R154). -/
def Speed.mode : Speed → Mode
  | .run => .run
  | .slow => .slow

/-- The mode of the settle selector (R154). -/
def Settle.mode : Settle → Mode
  | .hold => .hold
  | .park => .park

/-- A pending RESUME completed with an outcome (R158). -/
def State.completeResume (s : State) (o : Ending) : State :=
  match s.track.completion with
  | .resume tag =>
    (s.modTrack fun t => { t with completion := .none }).notice .service .completion tag [ReqKind.resume.code, o.code]
  | _ => s

/-- The tag of the pending SURVEY. -/
def Completion.surveyTag : Completion → Byte
  | .survey tag => tag
  | _ => 0#8

/-- The survey record removed and its COMPLETION sent, with the numbers of carriers tracked, UNKNOWN and provisional (R174). -/
def State.finishSurvey (s : State) (o : Ending) : State :=
  match s.track.survey with
  | some v =>
    (s.modTrack fun t => { t with survey := none, completion := .none }).notice .service .completion
      s.track.completion.surveyTag
      [ReqKind.survey.code, o.code, byte1 v.tracked.length, byte1 s.unknownCount, byte1 v.provisional.length]
  | none => s

/-- A running or pending survey aborted; the drives held at its direction return to their owners' rules (R174). -/
def State.abortSurvey (s : State) : State :=
  match s.track.survey with
  | some _ => (s.finishSurvey .aborted).applyAll
  | none => s

/-- The mode after a fault (R164, step 3). -/
def faultMode (k : FaultKind) : Mode → Mode
  | .run | .slow | .survey => .hold
  | .warmup => if k = .driveFail then .park else .hold
  | .hold => .hold
  | .park => .park

/-- The fault flag set, and the fault recorded as the first or counted as a later one (R164, step 1). -/
def TrackControl.record (t : TrackControl) (k : FaultKind) (p : FaultPlace) (c : Option CarrierId) : TrackControl :=
  match t.firstFault with
  | none => { t with faultFlag := true, firstFault := some ⟨k, p, c, t.seconds⟩ }
  | some _ => { t with faultFlag := true, laterFaults := satInc 255 t.laterFaults }

/-- The FAULT notice (R164, step 2). -/
def State.faultNotice (s : State) (k : FaultKind) (p : FaultPlace) (c : Option CarrierId) : State :=
  let s' := s.notice .service .fault 0#8
    ([byte1 k.code, p.kindByte, p.numberByte s.free, carrierByte c] ++ byte2 s.track.seconds ++ [byte1 s.track.laterFaults])
  if p = .none then s'.useFree 1 else s'

/-- A fault raised to track control (R164). -/
def State.raiseFault (s : State) (k : FaultKind) (p : FaultPlace) (c : Option CarrierId) : State :=
  let s := s.modTrack fun t => t.record k p c
  let s := s.faultNotice k p c
  let s := s.changeMode (faultMode k s.track.mode)
  let s := s.completeResume (if k = .driveFail then .failed else .aborted)
  s.abortSurvey

/-- A wake from an accepted PLACE or an ENDORSE (R162). -/
def State.wake (s : State) : State :=
  if s.track.mode = .park ∧ s.track.autoParked = true ∧ s.track.faultFlag = false then
    (s.modTrack fun t => { t with autoParked := false }).enterWarmup
  else s

/-- The autopark condition (R161). -/
def State.autoparkCondition (s : State) : Bool :=
  s.track.mode.dispatches && decide (0 < s.map.params.autopark) && s.book.orders.isEmpty &&
    allCarriers.all fun c => !(s.car c).inService || (s.car c).state == .idle

/-- The countdown started when the condition has come to hold and stopped when it has ceased to (R161). -/
def State.autopark (s : State) : State :=
  s.modTrack fun t =>
    { t with countdown := if s.autoparkCondition then some (t.countdown.getD s.map.params.autopark) else none }

end Sys2Proof.Machine
end

