-- ==== Sys2Proof/Machine/Carriers.lean ====
section
/-! DEFINITION. The carrier table: becoming UNKNOWN, OUT, IDLE or RETURNING (R100, R102 to R104), the distance along the loop and
the choice of a depot (R103, R145), stalls and their clearing (R105 to R108), and misreads (R109). -/

namespace Sys2Proof.Machine

/-! ## Distances and depots -/

/-- The loop distance from a reference section to a junction; an equal section counts as S for a front already in it, and as 0
otherwise (R103, R145). -/
def loopDist (count : Nat) (ref junction : SectionId) (inLoop : Bool) : Nat :=
  if ref = junction then (if inLoop then count else 0) else (junction.val + count - ref.val) % count

/-- The reference section of a place, and whether the front is in it (R103); section 0 for no place. -/
def State.reference (s : State) : Place → SectionId × Bool
  | .none => (0, false)
  | .loop k => (k, true)
  | .diverting i => (s.mergeSec i, false)
  | .queue i _ => (s.mergeSec i, false)
  | .docked i => (s.mergeSec i, false)
  | .launching i => (s.mergeSec i, false)

/-- The loop distance from a place to the junction of a station. -/
def State.distanceTo (s : State) (p : Place) (i : StationId) : Nat :=
  loopDist s.S (s.reference p).1 (s.stn i).junction (s.reference p).2

/-- The station of least distance from a place among a list, the earlier one on a tie; none of an empty list. -/
def State.nearest (s : State) (p : Place) : List StationId → Option StationId
  | [] => none
  | i :: rest =>
    match s.nearest p rest with
    | none => some i
    | some j => if s.distanceTo p j < s.distanceTo p i then some j else some i

/-- The DEPOT whose junction a carrier at a place reaches first (R103). -/
def State.chooseDepot (s : State) (p : Place) : Option StationId :=
  s.nearest p (allStations.filter fun i => (s.stn i).kind == some .depot)

/-! ## Stall kinds -/

/-- The stall kinds of a carrier changed; the stalled count falls by 1 if the stall ends (R107, R108). -/
def State.clearStall (s : State) (c : CarrierId) (f : StallKinds → StallKinds) : State :=
  let r := s.car c
  let r' := { r with stall := f r.stall }
  let s' := s.setCar c r'
  if r.stalled && !r'.stalled then s'.setStalledCount (s.cars.stalledCount - 1) else s'

/-- Every stall kind removed (R100, R112). -/
def StallKinds.none (_ : StallKinds) : StallKinds := ⟨Option.none, false⟩

/-- The kind of the running stretch removed (R107). -/
def StallKinds.dropStretch (k : StallKinds) : StallKinds := { k with stretch := Option.none }

/-- TAIL removed (R107). -/
def StallKinds.dropTail (k : StallKinds) : StallKinds := { k with tail := false }

/-! ## Becoming -/

/-- A carrier becomes UNKNOWN: no place, order or destination, load class and go-around count 0, its passage record cleared and
its stall ended; misreads, suspect and retire-pending are kept (R100). -/
def State.becomeUnknown (s : State) (c : CarrierId) : State :=
  (s.clearStall c StallKinds.none).modCar c fun r =>
    { CarrierRec.reset with misreads := r.misreads, suspect := r.suspect, retirePending := r.retirePending }

/-- A carrier becomes OUT: as UNKNOWN, and retire-pending is cleared (R100). -/
def State.becomeOut (s : State) (c : CarrierId) : State :=
  (s.clearStall c StallKinds.none).modCar c fun r =>
    { CarrierRec.reset with state := .out, misreads := r.misreads, suspect := r.suspect }

/-- A record made IDLE or REMOVING: no order, no destination, load class 0 (R102, R104). -/
def CarrierRec.rest (r : CarrierRec) (x : CarState) : CarrierRec :=
  { (r.setDest none) with state := x, order := none, load := 0 }

/-- A carrier becomes RETURNING: no order, load class 0, bound for the depot of R103 (R102 to R104). -/
def State.becomeReturning (s : State) (c : CarrierId) : State :=
  s.modCar c fun r => { (r.setDest (s.chooseDepot r.place)) with state := .returning, order := none, load := 0 }

/-! ## Stalls -/

/-- The kind of an overrun (R105). -/
inductive OverrunKind where
  | stretch (f : FrontKind)
  | tail
  deriving DecidableEq, Repr

/-- The code of an overrun kind in a STALL notice (R105). -/
def OverrunKind.code : OverrunKind → Byte
  | .stretch .front => 1#8
  | .tail => 2#8
  | .stretch .launch => 3#8
  | .stretch .dock => 4#8

/-- The stall kind of a stretch (R47). -/
def Stretch.frontKind : Stretch → FrontKind
  | .launch _ => .launch
  | .dock _ => .dock
  | .none | .loop _ | .divert _ => .front

/-- The place of a stretch (R47). -/
def Stretch.faultPlace : Stretch → FaultPlace
  | .none => .none
  | .loop k => .sectionAt k
  | .divert i | .launch i | .dock i => .station i

/-- The place of a watched sensor (R105). -/
def watchPlace : Option Watch → FaultPlace
  | none => .none
  | some (.entry k) => .sectionAt k
  | some (.spur i) => .station i

/-- The place of an overrun. -/
def Passage.overrunPlace (p : Passage) : OverrunKind → FaultPlace
  | .stretch _ => p.stretch.faultPlace
  | .tail => watchPlace p.watch

/-- The STALL notice of an overrun (R105). -/
def State.stallNotice (s : State) (c : CarrierId) (k : OverrunKind) : State :=
  let p := (s.car c).passage
  let place := p.overrunPlace k
  let counts := match k with
    | .stretch _ => byte2 p.n ++ byte2 p.budget
    | .tail => byte2 p.t ++ byte2 p.trailBudget
  s.notice .service .stall 0#8 ([byte1 c.val, k.code, place.kindByte, place.numberByte 0#8] ++ counts)

/-- The drive-enable rule applied to the section a carrier holds OCCUPIED, if any (R105, R112). -/
def State.applyDriveOf (s : State) (c : CarrierId) : State :=
  match s.occupiedBy c with
  | some k => s.applyDrive k
  | none => s

/-- The spur drive rule applied at the station whose queue holds a carrier or to which it is diverting (R105, R112). -/
def State.applySpurOf (s : State) (c : CarrierId) : State :=
  match s.spurOf c with
  | some i => s.applySpur i
  | none => s

/-- A stall kind added. -/
def StallKinds.add (k : StallKinds) : OverrunKind → StallKinds
  | .stretch f => { k with stretch := some f }
  | .tail => { k with tail := true }

/-- An overrun event taken (R105), with the stall limit tested when the carrier becomes stalled (R106). -/
def State.takeOverrun (s : State) (c : CarrierId) (k : OverrunKind) : State :=
  let was := (s.car c).stalled
  let s := s.modCar c fun r => { r with stall := r.stall.add k }
  let s := if was then s else s.setStalledCount (s.cars.stalledCount + 1)
  let s := (s.applyDriveOf c).applySpurOf c
  let s := s.stallNotice c k
  if !was && decide (s.map.params.stallLimit ≤ s.cars.stalledCount) then
    s.raiseFault .stallLimit ((s.car c).passage.overrunPlace k) (some c)
  else s

/-- The overrun of a stretch begun with n at or above B, raised at once (R42, R47). -/
def State.checkStretch (s : State) (c : CarrierId) : State :=
  let p := (s.car c).passage
  if p.stretch ≠ .none ∧ p.budget ≤ p.n ∧ p.overrun = false then
    (s.modCar c fun r => { r with passage := { r.passage with overrun := true } }).takeOverrun c (.stretch p.stretch.frontKind)
  else s

/-- The overrun of a watch armed with t at or above T, raised at once (R53). -/
def State.checkWatch (s : State) (c : CarrierId) : State :=
  let p := (s.car c).passage
  if p.watch.isSome = true ∧ p.trailBudget ≤ p.t ∧ p.tailOverrun = false then
    (s.modCar c fun r => { r with passage := { r.passage with tailOverrun := true } }).takeOverrun c .tail
  else s

/-! ## Reads -/

/-- A good read (R109). -/
def State.goodRead (s : State) (c : CarrierId) : State := s.modCar c fun r => { r with misreads := 0 }

/-- A misread: counted, stopping at 15; the fourth in a row sets the suspect flag (R109). -/
def State.misread (s : State) (c : CarrierId) : State :=
  s.modCar c fun r =>
    let n := satInc 15 r.misreads
    { r with misreads := n, suspect := r.suspect || n == 4 }

end Sys2Proof.Machine
end

