-- ==== Sys2Proof/Machine/Sections.lean ====
section
/-! DEFINITION. Section reservation: the merge arbiter (R61), loop and merge claims (R59, R60), grants (R63) with the launch they
begin (R90), the release of a section, the re-examination of the admission queue (R62) and the launch request (R89). -/

namespace Sys2Proof.Machine

/-- The loop population written (R57). -/
def State.setPopulation (s : State) (n : Nat) : State := { s with secs := { s.secs with population := n } }

/-- The admission queue changed (R60). -/
def State.modAdmission (s : State) (f : List StationId → List StationId) : State :=
  { s with secs := { s.secs with admission := f s.secs.admission } }

/-- A merge claim is admissible while p is below the effective admission limit (R57). -/
def State.admissible (s : State) : Bool := decide (s.secs.population < s.map.admissionLimit)

/-- A launch granted: the gate opens, the dock is LAUNCHING and the LAUNCH stretch of the launch pending carrier begins (R90). -/
def State.grantLaunch (s : State) (i : StationId) (c : CarrierId) : State :=
  let s := s.modStn i fun r => { r with launchGranted := true, dock := .launching c }
  let s := s.setG i true
  let s := s.modCar c fun r => { (r.beginLaunch s.map i) with place := .launching i }
  s.applySpur i

/-- A loop grant of section k (R63), with the passovers it leaves (R61). -/
def State.grantLoop (s : State) (k : SectionId) (c : CarrierId) (passovers : Nat) : State :=
  let s := s.modSec k fun r => { r with st := .reserved c .loop, loopClaim := none, passovers := passovers }
  s.applyDrive (s.prevSec k)

/-- A merge grant of section k to a station (R63), for its launch pending carrier. -/
def State.grantMerge (s : State) (k : SectionId) (i : StationId) : State :=
  match (s.stn i).launchPending with
  | some c =>
    let s := s.modSec k fun r => { r with st := .reserved c .merge, mergeClaim := none, passovers := 0 }
    let s := s.setPopulation (s.secs.population + 1)
    let s := s.modAdmission fun q => q.filter (· != i)
    s.grantLaunch i c
  | none => s

/-- The merge arbiter of section k (R61). -/
def State.arbiter (s : State) (k : SectionId) : State :=
  let r := s.sec k
  if r.st = .free then
    match r.loopClaim, (if s.admissible then r.mergeClaim else none) with
    | none, none => s
    | some c, none => s.grantLoop k c r.passovers
    | some c, some i => if r.passovers < 2 then s.grantLoop k c (r.passovers + 1) else s.grantMerge k i
    | none, some i => s.grantMerge k i
  else s

/-- Section k becomes FREE and its arbiter runs (R61). -/
def State.release (s : State) (k : SectionId) : State := (s.modSec k fun r => { r with st := .free }).arbiter k

/-- Section k becomes FREE if it is TRAILING for the carrier (R66, R69 to R71). -/
def State.releaseTrail (s : State) (k : SectionId) (c : CarrierId) : State :=
  if (s.sec k).st = .trailing c then s.release k else s

/-- A loop claim of a carrier on section k (R59). -/
def State.claimLoop (s : State) (k : SectionId) (c : CarrierId) : State :=
  (s.modSec k fun r => { r with loopClaim := some c }).arbiter k

/-- A merge claim of a station on its merge section (R60). -/
def State.claimMerge (s : State) (i : StationId) : State :=
  let m := s.mergeSec i
  if (s.sec m).mergeClaim = some i then s
  else
    let s := s.modSec m fun r => { r with mergeClaim := some i }
    let s := s.modAdmission fun q => q ++ [i]
    if s.admissible then s.arbiter m else s

/-- A pending merge claim of a station withdrawn (R60). -/
def State.withdrawMerge (s : State) (i : StationId) : State :=
  (s.modSec (s.mergeSec i) fun r => { r with mergeClaim := none, passovers := 0 }).modAdmission fun q => q.filter (· != i)

/-- The re-examination of the admission queue: each station's merge section is arbitrated if it is FREE, until p reaches A
(R62). -/
def State.reexamine (s : State) : State :=
  s.secs.admission.foldl (fun s i =>
    if s.admissible && (s.sec (s.mergeSec i)).st == .free then s.arbiter (s.mergeSec i) else s) s

/-- p falls by 1, and the admission queue is re-examined at once (R57). -/
def State.dropPopulation (s : State) : State := (s.setPopulation (s.secs.population - 1)).reexamine

/-- A launch requested for a carrier at a station (R89). -/
def State.requestLaunch (s : State) (i : StationId) (c : CarrierId) : State :=
  if (s.stn i).dock = .docked c then
    match (s.stn i).launchPending with
    | none => (s.modStn i fun r => { r with launchPending := some c, launchGranted := false }).claimMerge i
    | some d => if d = c then s else s.modStn i fun r => { r with heldLaunch := some c }
  else s

end Sys2Proof.Machine
end

