-- ==== Sys2Proof/Machine/Orders.lean ====
section
/-! DEFINITION. The order book's operations: tickets (R121), the lines and stops of an order (R118), its ending and COMPLETION
(R136, R137), the arrivals (R128, R132) and the completion of a stop (R131). -/

namespace Sys2Proof.Machine

/-! ## Tickets -/

/-- The ticket counter advanced by 1, wrapping from 65535 to 1 (R121). -/
def nextTicket (t : Nat) : Nat := if 65535 ≤ t then 1 else t + 1

/-- Whether an order in the book has the ticket. -/
def ticketUsed (os : List Order) (t : Nat) : Bool := os.any fun o => o.ticket == t

/-- The first value not in use from a counter value on, examining at most `fuel` values in use (R121). -/
def freeTicket (os : List Order) : Nat → Nat → Nat
  | 0, t => t
  | fuel + 1, t => if ticketUsed os t then freeTicket os fuel (nextTicket t) else t

/-- The ticket the next accepted PLACE takes (R121). -/
def OrderBook.ticket (b : OrderBook) : Nat := freeTicket b.orders Config.bookSize b.counter

/-! ## Lines and stops -/

/-- The distinct stock stations of an order's lines (R118), ascending. -/
def Order.stations (o : Order) : List StationId := allStations.filter fun i => o.lines.any fun l => l.station == i

/-- The mask of the lines a test holds for, the flag of value 2^i naming line i (R140). -/
def lineMask (f : Line → Bool) (ls : List Line) : Byte := packByte (ls.map f)

/-- The mask of the SHORT lines (R136). -/
def Order.shortMask (o : Order) : Byte := lineMask (fun l => l.status == .short) o.lines

/-- The current stop (R118). -/
def Order.current (o : Order) : Option StationId := o.stops[o.nextStop]?

/-- The first stop while it is not done (R78). -/
def Order.firstStop (o : Order) : Option StationId := if o.nextStop = 0 then o.stops.head? else none

/-! ## Ending an order -/

/-- An order removed from the book; the orders behind it close up (R117, R136). -/
def State.removeOrder (s : State) (t : Nat) : State :=
  { s with book := { s.book with orders := s.book.orders.filter fun o => o.ticket != t } }

/-- The COMPLETION of an order (R136, R186). -/
def State.completeOrder (s : State) (o : Order) (e : Ending) : State :=
  s.notice o.origin.link .completion o.originTag
    ([ReqKind.place.code, e.code] ++ byte2 o.ticket ++ [o.shortMask])

/-- The calls count of an order's first stop decremented if that stop is not done (R78). -/
def State.dropFirstCall (s : State) (o : Order) : State :=
  match o.firstStop with
  | some i => s.dropCall i
  | none => s

/-- An order ended FAILED (R137), its carrier having been made UNKNOWN; the calls are left to the caller. -/
def State.failOrder (s : State) (o : Order) : State := (s.removeOrder o.ticket).completeOrder o .failed

/-! ## Arrivals -/

/-- The lines of an order at a station, each with its index, as LOAD_CALL lists them (R128, R186). -/
def Order.linesAt (o : Order) (i : StationId) : List (Line × Nat) := o.lines.zipIdx.filter fun l => l.1.station == i

/-- The body of LOAD_CALL (R186). -/
def loadCallBody (o : Order) (i : StationId) : List Byte :=
  byte2 o.ticket ++ [byte1 (stationNum i), byte1 (o.linesAt i).length] ++
    (o.linesAt i).flatMap fun l => [byte1 l.2] ++ byte2 l.1.bin ++ [byte1 l.1.qty]

/-- The order a carrier serves (R119). -/
def State.orderOfCar (s : State) (c : CarrierId) : Option Order := (s.car c).order.bind s.orderOf

/-- An order's carrier has docked at its current stop (R128). -/
def State.arriveStock (s : State) (c : CarrierId) (i : StationId) : State :=
  match s.orderOfCar c with
  | some o =>
    let s := s.modOrder o.ticket fun x => { x with state := .atStock }
    let s := s.modCar c fun r => { r with state := .loading }
    s.notice .stock .loadCall 0#8 (loadCallBody o i)
  | none => s

/-- An order's carrier has docked at its counter station (R132). -/
def State.arriveCounter (s : State) (c : CarrierId) : State :=
  match s.orderOfCar c with
  | some o =>
    let s := s.modOrder o.ticket fun x => { x with state := .atCounter }
    let s := s.modCar c fun r => { r with state := .presenting }
    s.notice .counter .arrived 0#8 (byte2 o.ticket ++ [byte1 o.window])
  | none => s

/-! ## Completing a stop -/

/-- The stop at a station is done (R131): the answer is sent, the carrier goes on to its next stop, its counter or a depot, and
its launch is requested; a first stop's calls fall. -/
def State.stopDone (s : State) (r : Req) (o : Order) (c : CarrierId) (i : StationId) : State :=
  match o.stops[o.nextStop + 1]? with
  | some next =>
    let s := s.modOrder o.ticket fun x => { x with nextStop := o.nextStop + 1, state := .assigned }
    let s := s.done r []
    let s := s.modCar c fun x => { (x.setDest (some next)) with state := .called }
    (s.requestLaunch i c).dropFirstCall o
  | none =>
    if o.lines.any fun l => l.status == .loaded then
      let s := s.modOrder o.ticket fun x => { x with nextStop := o.nextStop + 1, state := .toCounter }
      let s := s.done r []
      let s := s.modCar c fun x => { (x.setDest (some o.counter)) with state := .delivering }
      (s.requestLaunch i c).dropFirstCall o
    else
      let s := (s.removeOrder o.ticket).done r []
      let s := s.becomeReturning c
      let s := s.requestLaunch i c
      (s.completeOrder o .shorted).dropFirstCall o

end Sys2Proof.Machine
end

