-- ==== Sys2Proof/Machine/Spurs.lean ====
section
/-! DEFINITION. The spur unit: the divert decision and the go-around (R79 to R81), the move-up (R85), what docking does (R88),
the launch's entry into the merge section (R91), and the track events of N_s and K_s (R82, R83, R86, R87, R91 to R93). -/

namespace Sys2Proof.Machine

/-! ## The divert decision -/

/-- Whether a carrier seeks to leave the loop at a station (R79). -/
def CarrierRec.seeks (r : CarrierRec) (i : StationId) (k : Option Kind) : Bool :=
  match r.state, k with
  | .called, some .stock => r.dest == some i
  | .delivering, some .counter => r.dest == some i
  | .returning, some .depot => true
  | _, _ => false

/-- Room for one more carrier in a station's spur (R80, R110). -/
def StationRec.hasRoom (r : StationRec) : Bool := decide (r.queue.length + r.inbound < r.capacity)

/-- The carrier table's part of the grant of a spur place: the LOOP stretch becomes DIVERT, and a RETURNING carrier is bound for
the station (R79, R80). -/
def CarrierRec.takePlace (r : CarrierRec) (i : StationId) : CarrierRec :=
  let x := { r.divert i with place := Place.diverting i }
  if r.state = .returning then x.setDest (some i) else x

/-- A spur place granted to the carrier entering the junction section k (R80). -/
def State.grantPlace (s : State) (c : CarrierId) (k : SectionId) (i : StationId) : State :=
  let s := s.modStn i fun r => { r with inbound := r.inbound + 1 }
  let s := s.setV i true
  let s := s.modSec k fun r => { r with spurPlace := some i }
  let s := s.modCar c fun r => r.takePlace i
  s.applyDrive k

/-- The CIRCLING notice of a DELIVERING carrier's order (R81). -/
def State.circling (s : State) (c : CarrierId) (i : StationId) : State :=
  match s.orderOfCar c with
  | some o =>
    s.notice o.origin.link .circling 0#8
      (byte2 o.ticket ++ [byte1 o.window, byte1 (stationNum i), byte1 (s.car c).goArounds])
  | none => s

/-- A carrier that seeks a station and finds no room goes around if the station is its destination (R81). The increment that reaches the
go-around limit in force sends CIRCLING, also where one was sent for the destination under a lower limit; a count that stands at 7 is not
incremented and sends none, whatever the limit (DEDUCED, log entry 15). -/
def State.goAround (s : State) (c : CarrierId) (i : StationId) : State :=
  let r := s.car c
  if r.dest = some i then
    let s := s.modCar c fun x => { x with goArounds := satInc 7 x.goArounds }
    if r.state = .delivering ∧ r.goArounds < 7 ∧ r.goArounds + 1 = s.map.params.goAround then s.circling c i else s
  else s

/-- A carrier that has entered section k claims its next place (R58). -/
def State.claimNext (s : State) (c : CarrierId) (k : SectionId) : State :=
  match s.stationAt k with
  | some i =>
    if (s.car c).seeks i (s.stn i).kind then
      if (s.stn i).hasRoom then s.grantPlace c k i else (s.goAround c i).claimLoop (s.nextSec k) c
    else s.claimLoop (s.nextSec k) c
  | none => s.claimLoop (s.nextSec k) c

/-! ## Moves within the spur -/

/-- The first carrier of the queue other than the launch pending one (R85). -/
def StationRec.firstWaiting (r : StationRec) : Option CarrierId := r.queue.find? fun c => some c != r.launchPending

/-- A move-up begins if its conditions hold (R85). -/
def State.tryMoveUp (s : State) (i : StationId) : State :=
  let r := s.stn i
  if r.dock = .empty ∧ r.movingUp = none then
    match r.firstWaiting with
    | some c =>
      let s := s.modStn i fun x => { x with movingUp := some c }
      let s := s.modCar c fun x => x.beginDock s.map i
      s.applySpur i
    | none => s
  else s

/-- A carrier removed from a station's queue, the indices behind it rewritten (R99). -/
def State.unqueue (s : State) (i : StationId) (c : CarrierId) : State :=
  (s.modStn i fun r => { r with queue := r.queue.filter (· != c) }).reindex i

/-- A carrier appended at the tail of a station's queue, with its place (R82, R94). -/
def State.enqueue (s : State) (i : StationId) (c : CarrierId) (f : CarrierRec → CarrierRec) : State :=
  let n := (s.stn i).queue.length
  (s.modStn i fun r => { r with queue := r.queue ++ [c] }).modCar c fun r => { f r with place := .queue i n }

/-- The launching carrier has entered the merge section (R91). -/
def State.launchEnters (s : State) (i : StationId) (c : CarrierId) : State :=
  let s := s.modStn i fun r => { r with launchPending := none, launchGranted := false }
  let s := (s.unqueue i c).applySpur i
  let r := s.stn i
  let s := match r.heldLaunch with
    | some d => if r.dock = .docked d then (s.modStn i fun x => { x with heldLaunch := none }).requestLaunch i d else s
    | none => s
  match r.dock with
  | .launching _ => ((s.modStn i fun x => { x with dock := .empty }).setG i false).tryMoveUp i
  | _ => s

/-! ## Docking -/

/-- What docking does (R88). -/
def State.dockEffects (s : State) (i : StationId) (c : CarrierId) : State :=
  let r := s.car c
  match (s.stn i).kind with
  | some .stock => if r.state = .called ∧ r.dest = some i then s.arriveStock c i else s.requestLaunch i c
  | some .counter => if r.state = .delivering ∧ r.dest = some i then s.arriveCounter c else s.requestLaunch i c
  | some .depot =>
    match r.state with
    | .returning => s.modCar c fun x => x.rest (if x.retirePending then .removing else .idle)
    | .idle => if r.retirePending then s.modCar c fun x => x.rest .removing else s
    | _ => s.requestLaunch i c
  | none => s

/-- A carrier put at a station's dock: DOCKED, with the read the spur unit awaits (R86, R94). -/
def State.dockCarrier (s : State) (i : StationId) (c : CarrierId) (a : Awaited) : State :=
  let s := s.modStn i fun r => { r with dock := .docked c, awaitedDock := a }
  (s.modCar c fun r => { r with place := .docked i }).dockEffects i c

/-! ## Track events -/

/-- A LEAD of N_s that no place is inbound for (R82). -/
def State.unexpectedSpur (s : State) (i : StationId) : State := s.raiseFault .unexpectedEntry (.station i) none

/-- The section table's part of a LEAD of N_s (R70): the carrier leaves the loop at junction j. -/
def State.leaveLoop (s : State) (j : SectionId) (c : CarrierId) : State :=
  let s := if (s.sec j).tailPending then
      (s.releaseTrail (s.prevSec j) c).modSec j fun r => { r with tailPending := false }
    else s
  let s := s.modSec j fun r => { r with st := .trailing c, spurPlace := none }
  s.dropPopulation.applyDrive j

/-- The carrier table's part of an entry into a spur: the DIVERT stretch ends, a watch of N_s is armed, and a RETURNING carrier
that enters a depot's spur becomes IDLE (R82, R102). -/
def CarrierRec.enterSpur (r : CarrierRec) (m : StopMap) (i : StationId) (depot : Bool) : CarrierRec :=
  let x := CarrierRec.arm m r.endStretch (.spur i) 0
  if depot = true ∧ r.state = .returning then x.rest .idle else x

/-- The LEAD of N_s by which a carrier enters the spur from junction j (R82). -/
def State.enterSpur (s : State) (i : StationId) (j : SectionId) (c : CarrierId) : State :=
  let s := s.leaveLoop j c
  let s := s.modStn i fun r => { r with inbound := r.inbound - 1, entryPending := some c }
  let s := s.setV i false
  let s := s.clearStall c StallKinds.none
  let depot := (s.stn i).kind == some .depot
  let s := s.enqueue i c fun r => r.enterSpur s.map i depot
  (s.tryMoveUp i).applySpur i

/-- A LEAD of N_s (R82). -/
def State.spurLead (s : State) (i : StationId) : State :=
  let j := (s.stn i).junction
  if (s.stn i).inbound = 0 then s.unexpectedSpur i
  else
    match (s.sec j).st with
    | .occupied c => if (s.sec j).spurPlace = some i then s.enterSpur i j c else s.unexpectedSpur i
    | _ => s.unexpectedSpur i

/-- A TRAIL of N_s (R83, R71). -/
def State.spurTrail (s : State) (i : StationId) : State :=
  match (s.stn i).entryPending with
  | some c =>
    let s := s.releaseTrail (s.stn i).junction c
    let s := if (s.car c).passage.watch = some (.spur i) then
        (s.clearStall c StallKinds.dropTail).modCar c fun r => r.disarm (.spur i)
      else s
    (s.modStn i fun r => { r with entryPending := none }).applySpur i
  | none => s

/-- A LEAD of K_s outside the survey's clearing of the station (R86). -/
def State.dockLead (s : State) (i : StationId) : State :=
  match (s.stn i).movingUp with
  | some c =>
    let s := s.clearStall c StallKinds.dropStretch
    let s := s.modCar c fun r => r.endStretch
    let s := s.modStn i fun r => { r with movingUp := none }
    (s.dockCarrier i c (.carrier c)).applySpur i
  | none =>
    let holder := match (s.stn i).dock with
      | .empty => none
      | .docked c => some c
      | .launching c => some c
    (s.raiseFault .unexpectedEntry (.station i) holder).modStn i fun r => { r with awaitedDock := .unexpected }

/-- The launch leaves the dock (R91). -/
def State.launchLeaves (s : State) (i : StationId) : State :=
  ((s.modStn i fun r => { r with dock := .empty }).setG i false).tryMoveUp i

/-- A REMOVING carrier lifted off at its dock (R92). An OUT carrier holds no section (R56): a junction section still TRAILING for it,
before the TRAIL of N_s of its entry, is freed, first of all. That place among the changes, and the entry pending kept until that TRAIL,
are the model's (DESIGN CHOICE, log entry 9). -/
def State.removeRetired (s : State) (i : StationId) (c : CarrierId) : State :=
  let s := s.releaseTrail (s.stn i).junction c
  let s := s.modStn i fun r => { r with dock := .empty }
  (((s.unqueue i c).becomeOut c).tryMoveUp i).applySpur i

/-- A carrier lifted off a dock that was not to be removed (R93). An UNKNOWN carrier holds no section (R56): a junction section still
TRAILING for it is freed, right after the fault, with the entry pending kept, as in `State.removeRetired` (DESIGN CHOICE, log entry 9). -/
def State.removeUnexpected (s : State) (i : StationId) (c : CarrierId) : State :=
  let s := s.raiseFault .removedUnexpected (.station i) (some c)
  let s := s.releaseTrail (s.stn i).junction c
  let s := if (s.stn i).launchPending = some c then
      (s.withdrawMerge i).modStn i fun r => { r with launchPending := none, launchGranted := false }
    else s
  let s := if (s.stn i).heldLaunch = some c then s.modStn i fun r => { r with heldLaunch := none } else s
  let s := (s.modStn i fun r => { r with dock := .empty }).unqueue i c
  let o := s.orderOfCar c
  let s := s.becomeUnknown c
  let s := match o with
    | some o => (s.failOrder o).dropFirstCall o
    | none => s
  (s.tryMoveUp i).applySpur i

/-- A TRAIL of K_s (R91 to R93). -/
def State.dockTrail (s : State) (i : StationId) : State :=
  match (s.stn i).dock with
  | .launching _ => s.launchLeaves i
  | .docked c => if (s.car c).state = .removing then s.removeRetired i c else s.removeUnexpected i c
  | .empty => s

/-- The read result of K_s outside the survey (R87). -/
def State.dockRead (s : State) (i : StationId) (read : Option CarrierId) : State :=
  let a := (s.stn i).awaitedDock
  let s := s.modStn i fun r => { r with awaitedDock := .none }
  match a with
  | .carrier c =>
    match read with
    | none => s.misread c
    | some d => if d = c then s.goodRead c else s.raiseFault .tagMismatch (.station i) (some c)
  | _ => s

end Sys2Proof.Machine
end

