-- ==== Sys2Proof/Machine/Entries.lean ====
section
/-! DEFINITION. The track events of the entry sensors outside the sweep: the entry into a section (R65, R66), an unexpected entry
(R67), the read result (R68) and the TRAIL (R69). -/

namespace Sys2Proof.Machine

/-- The tail of the carrier's previous entry, if it was never seen to clear E_(k−1) (R66, step 1). -/
def State.forgetTail (s : State) (km : SectionId) (c : CarrierId) : State :=
  if (s.sec km).st = .occupied c ∧ (s.sec km).tailPending = true then
    (s.releaseTrail (s.prevSec km) c).modSec km fun r => { r with tailPending := false }
  else s

/-- The section the carrier came from along the loop becomes TRAILING (R66, step 2). -/
def State.leaveSection (s : State) (km : SectionId) (c : CarrierId) : State :=
  if (s.sec km).st = .occupied c then s.modSec km fun r => { r with st := .trailing c } else s

/-- The carrier table is told of an entry (R66, step 4): every stall ends, a LOOP stretch begins and a watch is armed (R41, R48,
R107, R108). -/
def State.enterRecord (s : State) (k : SectionId) (c : CarrierId) : State :=
  (s.clearStall c StallKinds.none).modCar c fun r =>
    { CarrierRec.arm s.map (CarrierRec.beginLoop s.map r k 0) (.entry k) 0 with place := .loop k }

/-- The spur unit is told that a launching head has reached the merge section (R66, step 4; R91). -/
def State.launchArrives (s : State) (c : CarrierId) : State :=
  match allStations.find? fun i => (s.stn i).launchPending == some c && (s.stn i).launchGranted with
  | some i => s.launchEnters i c
  | none => s

/-- A carrier enters section k, reserved for it by a way (R66). -/
def State.enterSection (s : State) (k : SectionId) (c : CarrierId) (w : Way) : State :=
  let km := s.prevSec k
  let s := s.forgetTail km c
  let s := if w = .loop then s.leaveSection km c else s
  let s := s.modSec k fun r => { r with st := .occupied c, tailPending := true, awaited := .carrier c }
  let s := s.enterRecord k c
  let s := if w = .merge then s.launchArrives c else s
  let s := s.claimNext c k
  (s.applyDrive km).applyDrive k

/-- The holder a fault at section k names (R67). -/
def SecState.holder : SecState → Option CarrierId
  | .free => none
  | .reserved c _ => some c
  | .occupied c => some c
  | .trailing c => some c

/-- A LEAD of E_k (R65, R67). -/
def State.entryLead (s : State) (k : SectionId) : State :=
  match (s.sec k).st with
  | .reserved c w => s.enterSection k c w
  | st => (s.modSec k fun r => { r with awaited := .unexpected }).raiseFault .unexpectedEntry (.sectionAt k) st.holder

/-- A TRAIL of E_k (R69). -/
def State.entryTrail (s : State) (k : SectionId) : State :=
  if (s.sec k).tailPending then
    match (s.sec k).st.holder with
    | some c =>
      let s := s.releaseTrail (s.prevSec k) c
      let s := s.modSec k fun r => { r with tailPending := false }
      let s := if (s.car c).passage.watch = some (.entry k) then
          (s.clearStall c StallKinds.dropTail).modCar c fun r => r.disarm (.entry k)
        else s
      s.applyDrive k
    | none => s.modSec k fun r => { r with tailPending := false }
  else s.countStrayEdge

/-- A read result of E_k (R68). -/
def State.entryRead (s : State) (k : SectionId) (read : Option CarrierId) : State :=
  let a := (s.sec k).awaited
  let s := s.modSec k fun r => { r with awaited := .none }
  match a with
  | .carrier c =>
    match read with
    | none => s.misread c
    | some d => if d = c then s.goodRead c else s.raiseFault .tagMismatch (.sectionAt k) (some c)
  | .unexpected => s
  | .none => s.countStrayEdge

end Sys2Proof.Machine
end

