-- ==== Sys2Proof/Machine/Survey.lean ====
section
/-! DEFINITION. The survey: what its acceptance clears (R74, R95, R116, R137, R168), the sweep and its markers (R169, R170), the
tracking at its end (R53, R71, R74, R171), the clearing phase (R172), the naming and renaming of carriers (R173) and its
completion (R174). -/

namespace Sys2Proof.Machine

/-- The survey record changed; no change when none is present. -/
def State.modSurvey (s : State) (f : SurveyRec → SurveyRec) : State :=
  s.modTrack fun t => { t with survey := t.survey.map f }

/-- A SURVEY_FAIL (R170, R171, R173). -/
def State.surveyFail (s : State) (p : FaultPlace) (c : Option CarrierId) : State := s.raiseFault .surveyFail p c

/-! ## Acceptance -/

/-- A carrier the acceptance keeps in a depot spur (R116). -/
def State.kept (s : State) (c : CarrierId) : Bool :=
  (match (s.car c).state with
    | .idle | .removing | .called | .returning => true
    | _ => false) &&
  allStations.any fun i =>
    (s.stn i).kind == some .depot && (s.stn i).queue.contains c &&
      !((s.stn i).launchPending == some c && (s.stn i).launchGranted)

/-- The record of a kept carrier (R116). -/
def CarrierRec.keep (r : CarrierRec) : CarrierRec :=
  let atDock := match r.place with
    | .docked _ => true
    | _ => false
  let x := match r.state with
    | .removing => CarState.removing
    | .idle => .idle
    | _ => if r.retirePending && atDock then .removing else .idle
  { r.rest x with passage := Passage.clear, stall := ⟨none, false⟩ }

/-- The carrier table's part of an acceptance (R116). -/
def State.surveyCarriers (s : State) : State :=
  let s' := allCarriers.foldl (fun t c =>
    if (s.car c).inService then (if s.kept c then t.modCar c CarrierRec.keep else t.becomeUnknown c) else t) s
  s'.setStalledCount 0

/-- The order book's part of an acceptance: every order that holds a carrier ends FAILED, the oldest first (R137). -/
def State.surveyOrders (s : State) : State :=
  s.book.orders.foldl (fun t o => if o.carrier.isSome then t.failOrder o else t) s

/-- The section table's part of an acceptance (R74). -/
def State.surveySections (s : State) : State :=
  { s with secs := { s.secs with
      recs := Vector.ofFn fun k => if k.val < s.S then SectionRec.reset else s.sec k
      population := 0
      admission := [] } }

/-- A station record at an acceptance (R95). -/
def StationRec.surveyed (r : StationRec) (kept : CarrierId → Bool) : StationRec :=
  let depot := r.kind == some .depot
  { r with
    queue := if depot then r.queue.filter kept else []
    inbound := 0
    entryPending := none
    dock := match r.dock with
      | .docked c => if depot && kept c then .docked c else .empty
      | _ => .empty
    movingUp := none
    launchPending := none
    launchGranted := false
    heldLaunch := none
    awaitedDock := .none
    calls := 0 }

/-- The spur unit's part of an acceptance, with the carriers that were kept (R95). -/
def State.surveyStations (s : State) (kept : CarrierId → Bool) : State :=
  let s := { s with stations := Vector.ofFn fun i => (s.stn i).surveyed kept }
  let s := s.modLatches fun l => { l with v := Vector.replicate 12 false, g := Vector.replicate 12 false }
  let s := allStations.foldl (fun s i => s.reindex i) s
  allStations.foldl (fun s i => if (s.stn i).kind = some .depot then s.tryMoveUp i else s) s

/-- The survey record at an acceptance (R168, step 3). -/
def SurveyRec.fresh : SurveyRec :=
  { phase := .awaitingWarmup, sweepCount := 0, markers := [], nextId := 0, awaited := Vector.replicate 32 none, tracked := [],
    provisional := [], clearing := Vector.replicate 12 .none }

/-- The lengths of sections 0..S−1. -/
def State.lengths (s : State) : List Nat := (allSections.filter fun k => k.val < s.S).map s.map.sectionLen

/-- The sections whose entry sensor is active as the sweep begins (R169). -/
def State.activeEntries (s : State) : List SectionId := allSections.filter fun k => k.val < s.S && s.active (.entry k)

/-- An entry sensor that is active as the sweep begins, taken as a LEAD with a read result of NO_READ (R169): an anonymous marker
with count C div 2 and unread count 1, which awaits no read; or, where the markers already number as many as the UNKNOWN carriers,
SURVEY_FAIL naming the section, which ends the survey. -/
def State.leadAtStart (s : State) (k : SectionId) : State :=
  match s.track.survey with
  | none => s
  | some v =>
    if v.markers.length < s.unknownCount then
      s.modSurvey fun v =>
        { v with
          markers := v.markers ++ [⟨v.nextId, k, none, s.map.params.carrierLen / 2, false, 1⟩]
          nextId := v.nextId + 1 }
    else s.surveyFail (.sectionAt k) none

/-- The sweep count set, with no marker yet (R169). -/
def State.setSweep (s : State) : State :=
  s.modSurvey fun v =>
    { v with phase := .sweep, sweepCount := s.lengths.foldl (· + ·) 0 + s.lengths.foldl max 0, markers := [], nextId := 0 }

/-- The mode becomes SURVEY and the sweep begins (R169): each entry sensor that is active is taken, in ascending section order
(DESIGN CHOICE, log entry 9). -/
def State.beginSweep (s : State) : State :=
  s.activeEntries.foldl State.leadAtStart (s.setSweep.changeMode .survey)

/-- The changes of an acceptance, after its answer (R168). -/
def State.acceptSurvey (s : State) (tag : Byte) : State :=
  let kept := s.kept
  let s := s.surveyOrders
  let s := s.surveyCarriers
  let s := s.endJog.setGen
  let s := s.surveySections
  let s := s.surveyStations kept
  let s := s.modTrack fun t =>
    { t with survey := some SurveyRec.fresh, completion := .survey tag, autoParked := false }
  let s := s.applyAll
  if s.track.mode = .hold then s.beginSweep else s.enterWarmup

/-! ## The sweep -/

/-- The marker a LEAD of E_k moves: the oldest of the section before with a count of at least L − C div 2 (R169). -/
def State.qualifying (s : State) (v : SurveyRec) (k : SectionId) : Option Marker :=
  v.markers.find? fun m =>
    m.sec == s.prevSec k && decide (s.map.sectionLen (s.prevSec k) - s.map.params.carrierLen / 2 ≤ m.count)

/-- A LEAD of E_k during the sweep (R169). -/
def State.sweepLead (s : State) (k : SectionId) : State :=
  match s.track.survey with
  | none => s
  | some v =>
    match s.qualifying v k with
    | some m =>
      s.modSurvey fun v =>
        { v with
          markers := (v.markers.filter fun x => x.id != m.id) ++ [{ m with sec := k, count := 0, trailSeen := false }]
          awaited := tset v.awaited k (some m.id) }
    | none =>
      if v.markers.length < s.unknownCount then
        s.modSurvey fun v =>
          { v with
            markers := v.markers ++ [⟨v.nextId, k, none, 0, false, 0⟩]
            awaited := tset v.awaited k (some v.nextId)
            nextId := v.nextId + 1 }
      else s.surveyFail (.sectionAt k) none

/-- One marker changed. -/
def SurveyRec.modMarker (v : SurveyRec) (id : Nat) (f : Marker → Marker) : SurveyRec :=
  { v with markers := v.markers.map fun m => if m.id = id then f m else m }

/-- A TRAIL of E_k during the sweep (R169). -/
def State.sweepTrail (s : State) (k : SectionId) : State :=
  match s.track.survey with
  | none => s
  | some v =>
    match v.markers.find? fun m => m.sec == k && !m.trailSeen with
    | some m => s.modSurvey fun v => v.modMarker m.id fun x => { x with trailSeen := true }
    | none => s.countStrayEdge

/-- Whether a carrier is UNKNOWN. -/
def State.isUnknown (s : State) (c : CarrierId) : Bool := (s.car c).state == .unknown

/-- A read result of E_k during the sweep (R170). -/
def State.sweepRead (s : State) (k : SectionId) (read : Option CarrierId) : State :=
  match s.track.survey with
  | none => s
  | some v =>
    let s := s.modSurvey fun v => { v with awaited := tset v.awaited k none }
    match (tget v.awaited k).bind fun id => v.markers.find? fun m => m.id == id with
    | none => s.countStrayEdge
    | some m =>
      match m.carrier, read with
      | none, some c =>
        if s.isUnknown c && !(v.markers.any fun x => x.carrier == some c) then
          s.modSurvey fun v => v.modMarker m.id fun x => { x with carrier := some c, unread := 0 }
        else s.surveyFail (.sectionAt k) (some c)
      | none, none =>
        let s := s.modSurvey fun v => v.modMarker m.id fun x => { x with unread := x.unread + 1 }
        if 3 ≤ m.unread + 1 then s.surveyFail (.sectionAt k) none else s
      | some c, some d => if d = c then s else s.surveyFail (.sectionAt k) (some d)
      | some _, none => s

/-! ## Tracking at the end of the sweep -/

/-- A marker's carrier tracked: RETURNING in the marker's section with the passage record of R53 (R171). One
that a RETIRE has made OUT since its tag was read is tracked too: R171 tracks each marker's carrier, and R102 has only an UNKNOWN one
tracked (DESIGN CHOICE, log entry 9). -/
def State.trackMarker (s : State) (m : Marker) (c : CarrierId) : State :=
  s.modCar c fun r =>
    let r := { (r.setDest (s.chooseDepot (.loop m.sec))) with state := .returning, order := none, load := 0, place := .loop m.sec }
    let r := CarrierRec.beginLoop s.map r m.sec m.count
    if m.trailSeen then r else CarrierRec.arm s.map r (.entry m.sec) m.count

/-- The markers with their carriers. -/
def SurveyRec.named (v : SurveyRec) : List (Marker × CarrierId) := v.markers.filterMap fun m => m.carrier.map fun c => (m, c)

/-- The sections of the tracked carriers, placed (R74): each OCCUPIED, the one before TRAILING if the tail is pending and no
tracked front stands there; p becomes the number of tracked carriers. -/
def State.placeTracked (s : State) (ms : List (Marker × CarrierId)) : State :=
  let s := ms.foldl (fun s m =>
    s.modSec m.1.sec fun r => { r with st := .occupied m.2, tailPending := !m.1.trailSeen }) s
  let s := ms.foldl (fun s m =>
    let km := s.prevSec m.1.sec
    if m.1.trailSeen || ms.any fun x => x.1.sec == km then s
    else s.modSec km fun r => { r with st := .trailing m.2 }) s
  s.setPopulation ms.length

/-- The first anonymous marker in section order (R171). -/
def SurveyRec.anonymous (v : SurveyRec) : Option SectionId :=
  allSections.find? fun k => v.markers.any fun m => m.sec == k && m.carrier.isNone

/-- The first section in section order whose list holds two markers, with the later one's carrier (R171). Where a list holds three or
more, the carrier named is that of the second oldest; R171 speaks of two, so this is the model's choice (DESIGN CHOICE, log
entry 9), as is the section order. -/
def SurveyRec.crowded (v : SurveyRec) : Option (SectionId × Option CarrierId) :=
  allSections.findSome? fun k =>
    match v.markers.filter fun m => m.sec == k with
    | _ :: m :: _ => some (k, m.carrier)
    | _ => none

/-! ## The clearing phase -/

/-- A carrier tracked by the survey. -/
def State.tracked (s : State) (c : CarrierId) : Bool :=
  match s.track.survey with
  | some v => v.tracked.contains c
  | none => false

/-- A carrier tracked provisionally while the survey runs (R173). -/
def State.provisional (s : State) (c : CarrierId) : Bool :=
  match s.track.survey with
  | some v => v.provisional.contains c
  | none => false

/-- A carrier that is UNKNOWN and not tracked (R173). -/
def State.nameable (s : State) (c : CarrierId) : Bool := s.isUnknown c && !s.tracked c

/-- The clearing state of a station written. -/
def State.setClearing (s : State) (i : StationId) (x : Clearing) : State :=
  s.modSurvey fun v => { v with clearing := tset v.clearing i x }

/-- The budget of a station's clearing (R172). -/
def State.clearingBudget (s : State) (i : StationId) : Nat :=
  (s.map.approach i * (100 + s.map.params.slack) + 99) / 100

/-- A station becomes DRIVING with clearing count 0 (R172). -/
def State.startDriving (s : State) (i : StationId) : State :=
  (s.setClearing i (.driving 0 (s.clearingBudget i) false)).applySpur i

/-- The head at a dock tracked as a carrier: RETURNING, the dock carrier, its launch requested, the station FOUND (R172,
R173). -/
def State.trackAtDock (s : State) (i : StationId) (c : CarrierId) (provisional : Bool) : State :=
  let s := s.modCar c fun r =>
    { (r.setDest (s.chooseDepot (.docked i))) with state := .returning, order := none, load := 0, place := .docked i }
  let s := s.modStn i fun r => { r with queue := r.queue ++ [c], dock := .docked c, awaitedDock := .none }
  let s := s.modSurvey fun v =>
    { v with tracked := v.tracked ++ [c], provisional := if provisional then v.provisional ++ [c] else v.provisional }
  let s := s.setClearing i .found
  (s.requestLaunch i c).applySpur i

/-- A carrier found at a dock, named from its read (R173). -/
def State.nameHead (s : State) (i : StationId) (read : Option CarrierId) : State :=
  match read with
  | some c => if s.nameable c then s.trackAtDock i c false else s.surveyFail (.station i) (some c)
  | none =>
    match allCarriers.find? fun c => s.nameable c with
    | some c => s.trackAtDock i c true
    | none => s.surveyFail (.station i) none

/-- The read a clearing start takes from the slot of an active K_s, and the slot after it (R172). -/
def Slot.examine : Slot → Option CarrierId × Slot
  | .reportWaiting (some c) _ => (some c, .empty)
  | x => (none, x)

/-- The reader of a dock sensor. -/
def dockReader (i : StationId) : ReaderId := ⟨32 + i.val, by omega⟩

/-- A pending-read slot written. -/
def State.setSlot (s : State) (r : ReaderId) (x : Slot) : State :=
  { s with line := { s.line with slots := tset s.line.slots r x } }

/-- The start of the clearing phase at one STOCK or COUNTER station (R172). -/
def State.startClearing (s : State) (i : StationId) : State :=
  if s.track.survey.isSome ∧ ((s.stn i).kind = some .stock ∨ (s.stn i).kind = some .counter) then
    if s.active (.dock i) then
      let e := (tget s.line.slots (dockReader i)).examine
      (s.setSlot (dockReader i) e.2).nameHead i e.1
    else s.startDriving i
  else s

/-- The end of the sweep with every marker named and alone in its section (R171): the carriers are tracked and placed, each makes
its loop claim, overruns already reached are raised, and the clearing phase begins. -/
def State.trackAll (s : State) (v : SurveyRec) : State :=
  let ms := v.named
  let s := s.modSurvey fun v =>
    { v with phase := .clearing, markers := [], awaited := Vector.replicate 32 none, tracked := ms.map (·.2) }
  let s := ms.foldl (fun s m => s.trackMarker m.1 m.2) s
  let s := s.placeTracked ms
  let s := ms.foldl (fun s m => s.claimLoop (s.nextSec m.1.sec) m.2) s
  let s := s.applyAll
  let s := ms.foldl (fun s m => (s.checkStretch m.2).checkWatch m.2) s
  allStations.foldl (fun s i => s.startClearing i) s

/-- A LEAD of K_s while the station is DRIVING: the survey waits for its read result (R172). -/
def State.clearingLead (s : State) (i : StationId) : State :=
  match s.clearingOf i with
  | .driving n b _ => s.setClearing i (.driving n b true)
  | _ => s

/-- A launch leaves the dock of a FOUND station, which becomes DRIVING again (R172). -/
def State.clearingTrail (s : State) (i : StationId) : State := (s.launchLeaves i).startDriving i

/-- A pulse of Q_s at a DRIVING station (R172). -/
def Clearing.pulse : Clearing → Clearing
  | .driving n b w => .driving (min (n + 1) b) b w
  | x => x

/-! ## Provisional carriers -/

/-- A carrier number renamed. -/
def renamed (p d c : CarrierId) : CarrierId := if c = p then d else c

/-- A section state with a carrier renamed. -/
def SecState.rename (p d : CarrierId) : SecState → SecState
  | .free => .free
  | .reserved c w => .reserved (renamed p d c) w
  | .occupied c => .occupied (renamed p d c)
  | .trailing c => .trailing (renamed p d c)

/-- An awaited read with a carrier renamed. -/
def Awaited.rename (p d : CarrierId) : Awaited → Awaited
  | .carrier c => .carrier (renamed p d c)
  | x => x

/-- A section record with a carrier renamed (R173). -/
def SectionRec.rename (p d : CarrierId) (r : SectionRec) : SectionRec :=
  { r with st := r.st.rename p d, loopClaim := r.loopClaim.map (renamed p d), awaited := r.awaited.rename p d }

/-- A dock with a carrier renamed. -/
def Dock.rename (p d : CarrierId) : Dock → Dock
  | .empty => .empty
  | .docked c => .docked (renamed p d c)
  | .launching c => .launching (renamed p d c)

/-- A station record with a carrier renamed (R173). -/
def StationRec.rename (p d : CarrierId) (r : StationRec) : StationRec :=
  { r with
    queue := r.queue.map (renamed p d)
    entryPending := r.entryPending.map (renamed p d)
    dock := r.dock.rename p d
    movingUp := r.movingUp.map (renamed p d)
    launchPending := r.launchPending.map (renamed p d)
    heldLaunch := r.heldLaunch.map (renamed p d)
    awaitedDock := r.awaitedDock.rename p d }

/-- The provisional number p renamed d in every record that names it; p's record returns to the values of R100, and d is
confirmed (R173). -/
def State.rename (s : State) (p d : CarrierId) : State :=
  let r := s.car p
  let s := { s with
    secs := { s.secs with recs := Vector.ofFn fun k => (s.sec k).rename p d }
    stations := Vector.ofFn fun i => (s.stn i).rename p d }
  let s := (s.setCar p CarrierRec.reset).setCar d r
  s.modSurvey fun v =>
    { v with tracked := v.tracked.map (renamed p d), provisional := v.provisional.filter (· != p) }

/-- The next read of a provisionally tracked carrier (R173). -/
def State.provisionalRead (s : State) (c : CarrierId) (place : FaultPlace) (read : Option CarrierId) : State :=
  match read with
  | none => s.misread c
  | some d =>
    if d = c then (s.modSurvey fun v => { v with provisional := v.provisional.filter (· != c) }).goodRead c
    else if s.nameable d then s.rename c d
    else s.surveyFail place (some d)

/-- A read result of E_k outside the sweep, taken by the survey for a provisional carrier (R68, R173). -/
def State.sectionRead (s : State) (k : SectionId) (read : Option CarrierId) : State :=
  match (s.sec k).awaited with
  | .carrier c =>
    if s.provisional c then (s.modSec k fun r => { r with awaited := .none }).provisionalRead c (.sectionAt k) read
    else s.entryRead k read
  | _ => s.entryRead k read

/-- A read result of K_s, taken by the survey while it waits for one or for a provisional carrier (R87, R172, R173). -/
def State.stationRead (s : State) (i : StationId) (read : Option CarrierId) : State :=
  match s.clearingOf i with
  | .driving n b true => (s.setClearing i (.driving n b false)).nameHead i read
  | _ =>
    match (s.stn i).awaitedDock with
    | .carrier c =>
      if s.provisional c then (s.modStn i fun r => { r with awaitedDock := .none }).provisionalRead c (.station i) read
      else s.dockRead i read
    | _ => s.dockRead i read

/-! ## Completion -/

/-- Every STOCK and COUNTER station is CLEARED (R172). -/
def State.allCleared (s : State) (v : SurveyRec) : Bool :=
  allStations.all fun i =>
    match (s.stn i).kind with
    | some .stock | some .counter => tget v.clearing i == .cleared
    | _ => true

/-- Every tracked carrier is IDLE or REMOVING in a depot spur, or OUT (R172). -/
def State.allReturned (s : State) (v : SurveyRec) : Bool :=
  v.tracked.all fun c =>
    match (s.car c).state with
    | .idle | .removing | .out => true
    | _ => false

/-- The end of the clearing phase: the return phase follows (R172). -/
def State.endClearing (s : State) : State :=
  match s.track.survey with
  | some v => if v.phase == Phase.clearing && s.allCleared v then s.modSurvey fun v => { v with phase := .returning } else s
  | none => s

/-- The end of the return phase: the mode becomes HOLD and the survey completes DONE (R174). -/
def State.endReturn (s : State) : State :=
  match s.track.survey with
  | some v => if v.phase == Phase.returning && s.allReturned v then (s.changeMode .hold).finishSurvey .done else s
  | none => s

/-- The end of the clearing phase, and the completion of the survey (R172, R174). -/
def State.surveyProgress (s : State) : State := s.endClearing.endReturn

end Sys2Proof.Machine
end

