-- ==== Sys2Proof/Machine/Dispatcher.lean ====
section
/-! DEFINITION. The dispatcher: urgency (R142), the ranking (R147), the choice of a candidate (R148), the order of the stops
(R149), the assignment (R150), the rounds of a pass (R147, R151), and what follows every event: the survey's progress (R172,
R174), one pass for the opportunities it raised (R146), and the autopark countdown (R161). -/

namespace Sys2Proof.Machine

/-- The base of an order's urgency (R142). -/
def OrderClass.base : OrderClass → Nat
  | .rush => 128
  | .standard => 64
  | .bulk => 0

/-- The urgency of an order (R142). -/
def Order.urgency (o : Order) (aging : Nat) : Nat := min 255 (o.cls.base + o.age / aging)

/-- An order put into a ranking of orders that stand behind it in the book: before the first of no greater urgency (R147). -/
def rankIn (aging : Nat) (o : Order) : List Order → List Order
  | [] => [o]
  | x :: xs => if x.urgency aging ≤ o.urgency aging then o :: x :: xs else x :: rankIn aging o xs

/-- The QUEUED orders by falling urgency, equal ones in book order (R147). -/
def State.ranking (s : State) : List Order :=
  (s.book.orders.filter fun o => o.state == .queued).foldr (rankIn s.map.params.aging) []

/-- A station put into a list in ascending distance from a place. -/
def State.stopIn (s : State) (p : Place) (i : StationId) : List StationId → List StationId
  | [] => [i]
  | x :: xs => if s.distanceTo p i ≤ s.distanceTo p x then i :: x :: xs else x :: s.stopIn p i xs

/-- The stops of an order in ascending loop distance from a candidate's place (R149). -/
def State.stopsFrom (s : State) (p : Place) (o : Order) : List StationId := o.stations.foldr (s.stopIn p) []

/-- A candidate's distance to an order: the least loop distance to any of its stock stations (R148). -/
def State.orderDistance (s : State) (c : CarrierId) (o : Order) : Nat :=
  match s.nearest (s.car c).place o.stations with
  | some i => s.distanceTo (s.car c).place i
  | none => 0

/-- Whether a carrier's place is on the loop. -/
def Place.onLoop : Place → Bool
  | .loop _ => true
  | _ => false

/-- Whether candidate a is chosen over candidate b, which has the lower number: a lesser distance, or the same one and only a a
loop candidate (R148). -/
def State.preferred (s : State) (o : Order) (a b : CarrierId) : Bool :=
  let da := s.orderDistance a o
  let db := s.orderDistance b o
  decide (da < db) || (da == db && (s.car a).place.onLoop && !(s.car b).place.onLoop)

/-- The candidate chosen for an order among a list in ascending number (R148). -/
def State.choose (s : State) (o : Order) : List CarrierId → Option CarrierId
  | [] => none
  | c :: cs => some (cs.foldl (fun b a => if s.preferred o a b then a else b) c)

/-- An order with a line at a closed station is skipped (R147). -/
def State.skipped (s : State) (o : Order) : Bool := o.lines.any fun l => (s.stn l.station).closed

/-- The hand-offs of an assignment (R150). -/
def State.assign (s : State) (o : Order) (c : CarrierId) (stops : List StationId) (first : StationId) : State :=
  let head := (s.car c).place
  let s := s.modStn first fun r => { r with calls := r.calls + 1 }
  let s := s.modOrder o.ticket fun x => { x with carrier := some c, stops := stops, nextStop := 0, state := .assigned }
  let s := s.modCar c fun r => { (r.setDest (some first)) with state := .called, order := some o.ticket }
  match head with
  | .docked d => s.requestLaunch d c
  | _ => s

/-- An order handled by R148 to R150: the state after its assignment, or none if it is not assigned. -/
def State.tryAssign (s : State) (o : Order) : Option State :=
  if s.skipped o then none
  else
    match s.choose o s.disp.candidates with
    | none => none
    | some c =>
      match s.stopsFrom (s.car c).place o with
      | [] => none
      | first :: rest =>
        if (s.stn first).calls < (s.stn first).capacity then some (s.assign o c (first :: rest) first) else none

/-- A round: the first order in rank that can be assigned is, and leaves the ranking (R147). -/
def State.round (s : State) : List Order → Option (State × List Order)
  | [] => none
  | o :: os =>
    match s.tryAssign o with
    | some s' => some (s', os)
    | none => (s.round os).map fun p => (p.1, o :: p.2)

/-- Rounds until one assigns nothing (R147). -/
def State.rounds : Nat → State → List Order → State
  | 0, s, _ => s
  | n + 1, s, os =>
    match s.round os with
    | some p => State.rounds n p.1 p.2
    | none => s

/-- A dispatch pass (R147). -/
def State.pass (s : State) : State :=
  let os := s.ranking
  State.rounds os.length s os

/-- The pass that follows an event which raised a dispatch opportunity, if the mode runs passes (R146). -/
def State.dispatch (s : State) : State :=
  let s' := if s.disp.opportunity && s.track.mode.dispatches then s.pass else s
  { s' with disp := { s'.disp with opportunity := false } }

/-- What follows an event taken in full: the survey's progress, the pass and the autopark countdown. -/
def State.finish (s : State) : State := s.surveyProgress.dispatch.autopark

end Sys2Proof.Machine
end

