-- ==== Sys2Proof/Machine/Links.lean ====
section
/-! DEFINITION. The link units: the receive assembler and the request places (R177, R178), character errors and breaks (R176),
the taking of a request with its permission check (R179, R180), the end of a transmission (R182) and READ_LINK (R184). -/

namespace Sys2Proof.Machine

/-! ## Receiving -/

/-- The counts of a link unit changed. -/
def LinkUnit.count (u : LinkUnit) (f : LinkCounts → LinkCounts) : LinkUnit := { u with counts := f u.counts }

/-- The check count incremented (R177). -/
def LinkCounts.addCheck (c : LinkCounts) : LinkCounts := { c with check := satInc 255 c.check }

/-- The gap count incremented (R177). -/
def LinkCounts.addGap (c : LinkCounts) : LinkCounts := { c with gap := satInc 255 c.gap }

/-- The overrun count incremented (R178). -/
def LinkCounts.addOverrun (c : LinkCounts) : LinkCounts := { c with overrun := satInc 255 c.overrun }

/-- The parity count incremented (R176). -/
def LinkCounts.addParity (c : LinkCounts) : LinkCounts := { c with parity := satInc 255 c.parity }

/-- The framing count incremented (R176). -/
def LinkCounts.addFraming (c : LinkCounts) : LinkCounts := { c with framing := satInc 255 c.framing }

/-- The break count incremented (R176). -/
def LinkCounts.addBreak (c : LinkCounts) : LinkCounts := { c with brk := satInc 255 c.brk }

/-- The message being assembled, if any, discarded: the assembler hunts (R176, R177). -/
def LinkUnit.hunt (u : LinkUnit) : LinkUnit := { u with assembler := .hunting }

/-- A complete message goes to the request queue: it takes a free place, or is discarded with the overrun count (R178). -/
def LinkUnit.hold (u : LinkUnit) (kind tag : Byte) (body : List Byte) : LinkUnit :=
  if u.held.length < Config.requestPlaces then { u with held := u.held ++ [⟨kind, tag, body, false⟩] }
  else u.count LinkCounts.addOverrun

/-- The sum of bytes modulo 256 (R177). -/
def byteSum (bs : List Byte) : Byte := bs.foldl (· + ·) 0#8

/-- The characters taken since the mark byte judged after one more (R177): a length byte above 20 and a check sum that is not 0
discard the message with the check count; a check sum of 0 completes it. -/
def LinkUnit.assemble (u : LinkUnit) (chars : List Byte) : LinkUnit :=
  match chars with
  | kind :: tag :: len :: rest =>
    if Config.maxBody < len.toNat then u.hunt.count LinkCounts.addCheck
    else if rest.length ≤ len.toNat then { u with assembler := .assembling chars }
    else if byteSum chars = 0#8 then u.hunt.hold kind tag (rest.take len.toNat)
    else u.hunt.count LinkCounts.addCheck
  | _ => { u with assembler := .assembling chars }

/-- A character taken by the receive assembler (R177); none is taken until the line has returned to mark after a break
(R176). -/
def LinkUnit.char (u : LinkUnit) (b : Byte) : LinkUnit :=
  if u.brk then u
  else
    match u.assembler with
    | .hunting => if b = Config.markByte then { u with assembler := .assembling [] } else u
    | .assembling chars => u.assemble (chars ++ [b])

/-- Characters taken one after another. -/
def LinkUnit.chars (u : LinkUnit) (bs : List Byte) : LinkUnit := bs.foldl LinkUnit.char u

/-- A gap of more than 10 character times within a message (R177). -/
def LinkUnit.gap (u : LinkUnit) : LinkUnit :=
  match u.assembler with
  | .assembling _ => u.hunt.count LinkCounts.addGap
  | .hunting => u

/-- A flagged character (R176): one with both errors counts as a framing error, and a parity error exists only with parity
strapped on. -/
def LinkUnit.flagged (u : LinkUnit) (parityBad stopBad : Bool) : LinkUnit :=
  if u.brk then u
  else if stopBad then u.hunt.count LinkCounts.addFraming
  else if parityBad then u.hunt.count LinkCounts.addParity
  else u

/-- A break taken (R176): the requests not yet taken are discarded unanswered; the transmit queue is not touched. -/
def LinkUnit.takeBreak (u : LinkUnit) : LinkUnit :=
  if u.brk then u
  else { (u.hunt.count LinkCounts.addBreak) with brk := true, held := u.held.filter (·.taken) }

/-- The transmission of the message at the head of the transmit queue has ended: its place is freed, and an answer frees the
request place of the oldest held request, which it answered (R178, R182). -/
def LinkUnit.transmitted (u : LinkUnit) : LinkUnit :=
  match u.tx with
  | [] => u
  | m :: rest =>
    match m.kind with
    | .answer _ => { u with tx := rest, held := u.held.drop 1 }
    | .notice _ => { u with tx := rest }

/-- MESSAGE_RECEIVED (R177, R178). -/
def execMessageReceived (l : Link) (chars : List Byte) (s : State) : Host.Outcome State Fault Refusal :=
  .next (s.modLink l fun u => u.chars chars)

/-- LENGTH_ABOVE_20 (R177). -/
def execLengthAbove20 (l : Link) (chars : List Byte) (s : State) : Host.Outcome State Fault Refusal :=
  .next (s.modLink l fun u => u.chars chars)

/-- MESSAGE_GAP (R177). -/
def execMessageGap (l : Link) (chars : List Byte) (s : State) : Host.Outcome State Fault Refusal :=
  .next (s.modLink l fun u => (u.chars chars).gap)

/-- CHARACTER_ERROR (R176). -/
def execCharacterError (l : Link) (chars : List Byte) (parityBad stopBad : Bool) (s : State) :
    Host.Outcome State Fault Refusal :=
  .next (s.modLink l fun u => (u.chars chars).flagged (parityBad && parityOn s.framing) stopBad)

/-- BREAK (R176). -/
def execLinkBreak (l : Link) (chars : List Byte) (s : State) : Host.Outcome State Fault Refusal :=
  .next (s.modLink l fun u => (u.chars chars).takeBreak)

/-- LINK_LINE_RETURNS_TO_MARK (R176): the assembler takes characters again, in HUNTING. -/
def execLinkLineReturnsToMark (l : Link) (s : State) : Host.Outcome State Fault Refusal :=
  .next (s.modLink l fun u => { u with brk := false })

/-- TRANSMIT_COMPLETE (R182). -/
def execTransmitComplete (l : Link) (s : State) : Host.Outcome State Fault Refusal :=
  .next (s.modLink l LinkUnit.transmitted)

/-! ## Taking a request -/

/-- What the owning block makes of a request it is handed: an answer that leaves every block as it was (R181), or the state after
its changes and its answer. -/
inductive Verdict where
  | busy (b : Busy)
  | refuse (x : Reason)
  | accept (s : State)

/-- The oldest held request of a link that is not yet taken (R179). -/
def State.waiting (s : State) (l : Link) : Option Held := (s.link l).held.find? fun h => !h.taken

/-- The first request not yet taken marked as taken. -/
def takeFirst : List Held → List Held
  | [] => []
  | h :: hs => if h.taken then h :: takeFirst hs else { h with taken := true } :: hs

/-- The oldest waiting request of a link taken (R179). -/
def State.take (s : State) (l : Link) : State := s.modLink l fun u => { u with held := takeFirst u.held }

/-- A verdict carried out: BUSY and REFUSED change nothing but the transmit queue (R181). -/
def Verdict.run (v : Verdict) (s : State) (r : Req) : State :=
  match v with
  | .busy b => s.busy r b
  | .refuse x => s.refuse r x
  | .accept s' => s'

/-- A request of a kind taken from a link (R179): permission first, then the owning block's verdict. Where the link's oldest
waiting request is of another kind, or none waits, the state does not hold the event (log entry 1). -/
def State.request (s : State) (k : ReqKind) (l : Link) (judge : Req → State → Verdict) : State :=
  match s.waiting l with
  | some h =>
    if h.kind = k.code then
      let s := s.take l
      let r : Req := ⟨l, h.tag, h.body⟩
      if k.permitted l then (judge r s).run s r else s.refuse r .notPermitted
    else s
  | none => s

/-- UNKNOWN_KIND (R179). -/
def execUnknownKind (l : Link) (s : State) : Host.Outcome State Fault Refusal :=
  .next (match s.waiting l with
    | some h => if ReqKind.ofCode h.kind = none then (s.take l).refuse ⟨l, h.tag, h.body⟩ .badFormat else s
    | none => s)

/-- The verdict on a body that must be empty. -/
def emptyBody (r : Req) (v : Verdict) : Verdict := if r.body.isEmpty then v else .refuse .badFormat

/-! ## READ_LINK -/

/-- The body of READ_LINK (R184). -/
def readLinkBody (l : Link) (c : LinkCounts) : List Byte :=
  [byte1 (Link.code l), byte1 c.parity, byte1 c.framing, byte1 c.check, byte1 c.gap, byte1 c.overrun, byte1 c.brk, byte1 c.dropped]

/-- A link's counts read and cleared (R184). -/
def State.readLink (s : State) (r : Req) (l : Link) : State :=
  (s.modLink l fun u => { u with counts := LinkCounts.zero }).done r (readLinkBody l (s.link l).counts)

/-- READ_LINK judged (R184). -/
def judgeReadLink (r : Req) (s : State) : Verdict :=
  match r.body with
  | [] => .accept (s.readLink r r.link)
  | [b] =>
    match linkOfCode b.toNat with
    | none => .refuse .badValue
    | some l => if r.link = .service ∨ r.link = l then .accept (s.readLink r l) else .refuse .notPermitted
  | _ => .refuse .badFormat

/-- READ_LINK (R184). -/
def execReadLink (l : Link) (s : State) : Host.Outcome State Fault Refusal := .next (s.request .readLink l judgeReadLink)

end Sys2Proof.Machine
end

