-- ==== Sys2Proof/Machine/CarrierReqs.lean ====
section
/-! DEFINITION. The service requests on one carrier or one drive: ADMIT (R110, R94), RETIRE (R111, R13), CLEAR_CARRIER (R112) and
JOG (R113). -/

namespace Sys2Proof.Machine

/-- The carrier a number names, or REFUSED BAD_VALUE (6.5). -/
def withCarrier (b : Byte) (f : CarrierId → Verdict) : Verdict :=
  match carrierOf b.toNat with
  | some c => f c
  | none => .refuse .badValue

/-! ## ADMIT -/

/-- The spur unit's part of an ADMIT: the carrier docks at once, begins its move-up, or rests in the queue (R94). -/
def State.admitToSpur (s : State) (c : CarrierId) (i : StationId) : State :=
  let s := s.enqueue i c id
  if (s.stn i).dock = .empty ∧ (s.stn i).movingUp = none ∧ (s.stn i).firstWaiting = some c then
    if s.active (.dock i) then s.dockCarrier i c .none else s.tryMoveUp i
  else s

/-- An ADMIT accepted (R110). -/
def State.admitAt (s : State) (r : Req) (c : CarrierId) (i : StationId) : State :=
  ((s.modCar c fun _ => { CarrierRec.reset with state := .idle }).admitToSpur c i).done r []

/-- The steps 3 to 7 of an ADMIT (R110). -/
def judgeAdmitTo (r : Req) (s : State) (c : CarrierId) (i : StationId) : Verdict :=
  match s.map.state with
  | .edit => .busy .mapEdit
  | .invalid => .busy .notReady
  | .valid =>
    if s.track.mode = .survey then .busy .mode
    else if (s.stn i).kind ≠ some .depot then .refuse .badValue
    else if (s.car c).inService then .refuse .wrongState
    else if (s.stn i).hasRoom then .accept (s.admitAt r c i).finish
    else .busy .full

/-- ADMIT judged (R110). -/
def judgeAdmit (r : Req) (s : State) : Verdict :=
  match r.body with
  | [b, d] =>
    match carrierOf b.toNat, stationOf d.toNat with
    | some c, some i => judgeAdmitTo r s c i
    | _, _ => .refuse .badValue
  | _ => .refuse .badFormat

/-- ADMIT (R110). -/
def execAdmitCarrier (l : Link) (s : State) : Host.Outcome State Fault Refusal := .next (s.request .admitCarrier l judgeAdmit)

/-! ## RETIRE -/

/-- The effect of a RETIRE on a carrier that is not OUT (R111). -/
def State.retire (s : State) (c : CarrierId) : State :=
  let r := s.car c
  match r.state with
  | .out => s
  | .unknown => s.becomeOut c
  | .removing => s
  | .idle =>
    match r.place with
    | .docked _ => if r.retirePending then s else s.modCar c fun x => x.rest .removing
    | _ => s.modCar c fun x => { x with retirePending := true }
  | .called | .loading | .delivering | .presenting | .returning => s.modCar c fun x => { x with retirePending := true }

/-- RETIRE judged (R111); while the map is in EDIT, only an UNKNOWN or OUT carrier is looked at (R13). -/
def judgeRetire (r : Req) (s : State) : Verdict :=
  match r.body with
  | [b] =>
    withCarrier b fun c =>
      if s.map.state = .edit ∧ (s.car c).inService = true then .busy .mapEdit
      else if (s.car c).state = .out then .refuse .wrongState
      else .accept ((s.retire c).done r []).finish
  | _ => .refuse .badFormat

/-- RETIRE (R111). -/
def execRetire (l : Link) (s : State) : Host.Outcome State Fault Refusal := .next (s.request .retire l judgeRetire)

/-! ## CLEAR_CARRIER -/

/-- Each stall kind of a carrier restarted: the running stretch, and the watch on the same sensor (R50, R112). -/
def CarrierRec.restart (m : StopMap) (r : CarrierRec) : CarrierRec :=
  let x := if r.stall.stretch.isSome then CarrierRec.restartStretch m r else r
  if r.stall.tail then CarrierRec.restartWatch m x else x

/-- CLEAR_CARRIER's changes (R112). -/
def State.clearCarrier (s : State) (c : CarrierId) : State :=
  let stalled := (s.car c).stalled
  let s := if stalled then (s.modCar c fun r => r.restart s.map).clearStall c StallKinds.none else s
  let s := s.modCar c fun r => { r with misreads := 0, suspect := false }
  if stalled then (s.applyDriveOf c).applySpurOf c else s

/-- CLEAR_CARRIER judged (R112). -/
def judgeClearCarrier (r : Req) (s : State) : Verdict :=
  match r.body with
  | [b] =>
    withCarrier b fun c =>
      if (s.car c).state = .out then .refuse .wrongState else .accept ((s.clearCarrier c).done r []).finish
  | _ => .refuse .badFormat

/-- CLEAR_CARRIER (R112). -/
def execClearCarrier (l : Link) (s : State) : Host.Outcome State Fault Refusal :=
  .next (s.request .clearCarrier l judgeClearCarrier)

/-! ## JOG -/

/-- The target of a JOG, if it names one the map has (R113, step 4). -/
def State.jogTarget (s : State) (kind number : Nat) : Option JogTarget :=
  if kind = 1 then
    match sectionOf number with
    | some k => if k.val < s.S then some (.sectionAt k) else none
    | none => none
  else
    match stationOf number with
    | some i => if (s.map.kindOf i).isSome then some (.spur i) else none
    | none => none

/-- A target that may be jogged: a section that is FREE or whose holder is stalled, and any spur (R113, step 7). -/
def State.joggable (s : State) : JogTarget → Bool
  | .spur _ => true
  | .sectionAt k =>
    match (s.sec k).st with
    | .free => true
    | .reserved c _ => (s.car c).stalled
    | .occupied c => (s.car c).stalled
    | .trailing c => (s.car c).stalled

/-- A jog started (R113). -/
def State.startJog (s : State) (r : Req) (t : JogTarget) (n : Nat) : State :=
  ((s.setJog (some ⟨t, n, 0, r.tag⟩)).deferred r []).setGen

/-- The steps 4 to 7 of a JOG (R113). -/
def judgeJogTarget (r : Req) (s : State) (kind number count : Byte) : Verdict :=
  match s.jogTarget kind.toNat number.toNat with
  | none => .refuse .badValue
  | some t =>
    if count = 0#8 then .refuse .badValue
    else if s.track.mode = .park ∨ s.track.mode = .survey then .busy .mode
    else if s.cars.jog.isSome then .busy .inProgress
    else if s.joggable t then .accept (s.startJog r t count.toNat)
    else .refuse .wrongState

/-- JOG judged (R113). -/
def judgeJog (r : Req) (s : State) : Verdict :=
  match r.body with
  | [kind, number, count] =>
    if kind ≠ 1#8 ∧ kind ≠ 2#8 then .refuse .badValue
    else
      match s.map.state with
      | .edit => .busy .mapEdit
      | .invalid => .busy .mode
      | .valid => judgeJogTarget r s kind number count
  | _ => .refuse .badFormat

/-- JOG (R113). -/
def execJog (l : Link) (s : State) : Host.Outcome State Fault Refusal := .next (s.request .jog l judgeJog)

end Sys2Proof.Machine
end

