-- ==== Sys2Proof/Machine/Line.lean ====
section
/-! DEFINITION. The line unit's commands: the millisecond event's part in the filters and slots (R21, R27), the acceptance of a
level with its edge (R21, R22, R25), tag reports (R23, R24, R26), the expiry of a window (R27), and the delivery of edges and
read results to their owners (R13, R20, R28). Each delivered edge or read result is an event of its own. -/

namespace Sys2Proof.Machine

/-! ## Delivery -/

/-- A LEAD taken by the sensor's owner. A LEAD of DRIVE_READY changes nothing by itself: WARMUP_END follows it (R159, R160). -/
def State.takeLead (s : State) : Sensor → State
  | .entry k => if s.sweeping then s.sweepLead k else s.entryLead k
  | .spurEntry i => s.spurLead i
  | .dock i => if s.driving i then s.clearingLead i else s.dockLead i
  | .driveReady => s

/-- A TRAIL of DRIVE_READY (R160). -/
def State.driveReadyTrail (s : State) : State :=
  match s.track.mode with
  | .run | .slow | .hold | .survey => s.raiseFault .driveFail .none none
  | .park | .warmup => s

/-- A TRAIL of K_s: a launch leaving a FOUND station's dock also restarts its clearing (R91 to R93, R172). -/
def State.takeDockTrail (s : State) (i : StationId) : State :=
  match s.clearingOf i, (s.stn i).dock with
  | .found, .launching _ => s.clearingTrail i
  | _, _ => s.dockTrail i

/-- A TRAIL taken by the sensor's owner. -/
def State.takeTrail (s : State) : Sensor → State
  | .entry k => if s.sweeping then s.sweepTrail k else s.entryTrail k
  | .spurEntry i => s.spurTrail i
  | .dock i => s.takeDockTrail i
  | .driveReady => s.driveReadyTrail

/-- A read result taken by the sensor's owner (R28). -/
def State.takeRead (s : State) (x : Sensor) (read : Option CarrierId) : State :=
  match x with
  | .entry k => if s.sweeping then s.sweepRead k read else s.sectionRead k read
  | .dock i => s.stationRead i read
  | .spurEntry _ | .driveReady => s

/-- A LEAD delivered, or dropped when the sensor's events are not taken (R13, R20). -/
def State.deliverLead (s : State) (x : Sensor) : State := if s.delivers x then (s.takeLead x).finish else s

/-- A TRAIL delivered or dropped. -/
def State.deliverTrail (s : State) (x : Sensor) : State := if s.delivers x then (s.takeTrail x).finish else s

/-- A read result delivered or dropped, as the map and the sensor stand when it is delivered (R13, R20). Where a MAP_OPEN came between
a delivered LEAD and its read result, the result is dropped, though R28 has a result dropped exactly when its LEAD was, but for a
MAP_CLOSE (DEDUCED, log entry 15). -/
def State.deliverRead (s : State) (x : Sensor) (read : Option CarrierId) : State :=
  if s.delivers x then (s.takeRead x read).finish else s

/-! ## Filters -/

/-- A filter at a millisecond event (R21). An accepted change waits for its SENSOR_LEVEL_ACCEPTED (log entry 2). -/
def Filter.sample (f : Filter) (time : Nat) (level : Bool) : Filter :=
  if f.due then f
  else if level = f.accepted then { f with hold := 0 }
  else { f with hold := min (f.hold + 1) 16, due := decide (time < f.hold + 1) }

/-- A slot at a millisecond event: a waiting slot's window count is decremented (R27). -/
def Slot.tick : Slot → Slot
  | .empty => .empty
  | .leadWaiting w => .leadWaiting (w - 1)
  | .reportWaiting r w => .reportWaiting r (w - 1)

/-- A LEAD of a read-carrying sensor acts on its slot and is delivered (R25). -/
def State.leadWithSlot (s : State) (x : Sensor) (r : ReaderId) : State :=
  match tget s.line.slots r with
  | .empty => (s.setSlot r (.leadWaiting Config.tagWindow)).deliverLead x
  | .leadWaiting _ => ((s.setSlot r (.leadWaiting Config.tagWindow)).deliverRead x none).deliverLead x
  | .reportWaiting read _ => ((s.setSlot r .empty).deliverLead x).deliverRead x read

/-- The LEAD of a sensor (R25). -/
def State.lead (s : State) (x : Sensor) : State :=
  match readerOf x with
  | some r => s.leadWithSlot x r
  | none => s.deliverLead x

/-- A filter written. -/
def State.setFilter (s : State) (x : Sensor) (f : Filter) : State :=
  { s with line := { s.line with filters := tset s.line.filters (sensorIndex x) f } }

/-- The sensor's new level accepted: its edge is produced (R21, R22). -/
def State.acceptLevel (s : State) (x : Sensor) : State :=
  let s := s.setFilter x ⟨!(s.filter x).accepted, 0, false⟩
  if s.active x then s.lead x else s.deliverTrail x

/-- SENSOR_LEVEL_ACCEPTED (R21, R22, R25). -/
def execSensorLevelAccepted (x : Sensor) (s : State) : Host.Outcome State Fault Refusal :=
  .next (if (s.filter x).due then s.acceptLevel x else s)

/-! ## The tag port -/

/-- A report that has passed the checks, offered to its slot (R26). -/
def State.offerReport (s : State) (r : ReaderId) (read : Option CarrierId) : State :=
  match tget s.line.slots r with
  | .leadWaiting _ => (s.setSlot r .empty).deliverRead (sensorOfReader r) read
  | .empty => s.setSlot r (.reportWaiting read Config.tagWindow)
  | .reportWaiting _ _ => (s.setSlot r (.reportWaiting read Config.tagWindow)).countStrayRead

/-- A completed report checked (R24). -/
def State.takeReport (s : State) (reader id : Byte) : State :=
  if h : reader.toNat < 44 then
    let r : ReaderId := ⟨reader.toNat, h⟩
    if s.inUse (sensorOfReader r) then
      match carrierOf id.toNat with
      | some c => s.offerReport r (some c)
      | none => if id = 0xFF#8 then s.offerReport r none else s.countStrayRead.offerReport r none
    else s.countStrayRead
  else s.countStrayRead

/-- The half-assembled report written. -/
def State.setTagHalf (s : State) (h : Option Byte) : State := { s with line := { s.line with tagHalf := h } }

/-- A character taken on the tag port (R23). -/
def State.tagChar (s : State) (b : Byte) : State :=
  if s.line.tagBreak then s
  else
    match s.line.tagHalf with
    | none => s.setTagHalf (some b)
    | some reader => (s.setTagHalf none).takeReport reader b

/-- Characters taken on the tag port, one after another. -/
def State.tagChars (s : State) (chars : List Byte) : State := chars.foldl State.tagChar s

/-- A half-assembled report discarded, with a stray-read count (R23). -/
def State.discardHalf (s : State) : State :=
  match s.line.tagHalf with
  | some _ => (s.setTagHalf none).countStrayRead
  | none => s

/-- TAG_REPORT (R23, R24, R26). -/
def execTagReport (chars : List Byte) (s : State) : Host.Outcome State Fault Refusal := .next (s.tagChars chars)

/-- TAG_REPORT_TIMEOUT (R23). -/
def execTagReportTimeout (chars : List Byte) (s : State) : Host.Outcome State Fault Refusal :=
  .next (s.tagChars chars).discardHalf

/-- TAG_CHARACTER_ERROR (R23). -/
def execTagCharacterError (chars : List Byte) (s : State) : Host.Outcome State Fault Refusal :=
  .next (s.tagChars chars).discardHalf

/-- TAG_PORT_BREAK (R23): no character is taken until the line returns to mark. -/
def execTagPortBreak (chars : List Byte) (s : State) : Host.Outcome State Fault Refusal :=
  let s := (s.tagChars chars).discardHalf
  .next { s with line := { s.line with tagBreak := true } }

/-- TAG_PORT_RETURNS_TO_MARK (R23). -/
def execTagPortReturnsToMark (s : State) : Host.Outcome State Fault Refusal :=
  .next { s with line := { s.line with tagBreak := false } }

/-! ## Windows -/

/-- READ_WINDOW_EXPIRY (R27). -/
def execReadWindowExpiry (r : ReaderId) (s : State) : Host.Outcome State Fault Refusal :=
  .next (match tget s.line.slots r with
    | .leadWaiting 0 => (s.setSlot r .empty).deliverRead (sensorOfReader r) none
    | .reportWaiting _ 0 => (s.setSlot r .empty).countStrayRead
    | _ => s)

end Sys2Proof.Machine
end

