-- ==== Sys2Proof/Machine/Events.lean ====
section
/-! DEFINITION. The events of the time base (R39, R21, R27, R138, R154, R159, R161), of the step generator (R38, R46, R49, R52,
R114, R169, R172), and the events that become due through them: the end of a jog (R114), of the autopark countdown (R161), of a
warm-up (R159), of the sweep (R171) and of a spur's clearing (R172). A due event acts only while the state holds that it is due
(log entry 2). -/

namespace Sys2Proof.Machine

/-! ## Time base -/

/-- The line unit at a millisecond event: the pins sampled, every filter and every waiting slot (R21, R27). -/
def LineUnit.millisecond (u : LineUnit) (time : Nat) (pins : Vector Bool 57) : LineUnit :=
  { u with
    pins := pins
    filters := Vector.ofFn fun i => (tget u.filters i).sample time (tget pins i)
    slots := Vector.ofFn fun r => (tget u.slots r).tick }

/-- The time base at a millisecond event: the 1000th makes a second event due (R39). -/
def TimeBase.millisecond (t : TimeBase) : TimeBase :=
  if 999 ≤ t.ms then ⟨0, true⟩ else { t with ms := t.ms + 1 }

/-- The warm-up count at a millisecond event; it stops at the DRIVE_FAIL limit (R159). -/
def TrackControl.warm (t : TrackControl) : TrackControl :=
  if t.mode = .warmup then { t with warmCount := min (t.warmCount + 1) (max t.warmCount (50 * t.warmW)) } else t

/-- MILLISECOND_EVENT (R39). -/
def execMillisecondEvent (high : List Sensor) (s : State) : Host.Outcome State Fault Refusal :=
  .next { s with
    line := s.line.millisecond s.map.params.filter (pinsOf high)
    time := s.time.millisecond
    track := s.track.warm }

/-- The second count and the countdown at a second event (R154, R161). -/
def TrackControl.second (t : TrackControl) : TrackControl :=
  { t with seconds := satInc 65535 t.seconds, countdown := t.countdown.map fun n => n - 1 }

/-- The ages at a second event (R138). -/
def OrderBook.second (b : OrderBook) : OrderBook :=
  { b with orders := b.orders.map fun o => { o with age := satInc 65535 o.age } }

/-- SECOND_EVENT (R39). -/
def execSecondEvent (s : State) : Host.Outcome State Fault Refusal :=
  .next (if s.time.secondDue then
      { s with time := { s.time with secondDue := false }, book := s.book.second, track := s.track.second }
    else s)

/-- AUTOPARK_EXPIRY (R161); the countdown runs in RUN and SLOW alone. -/
def execAutoparkExpiry (s : State) : Host.Outcome State Fault Refusal :=
  .next (if s.track.countdown = some 0 ∧ s.track.mode.dispatches = true then
      ((s.modTrack fun t => { t with autoParked := true, countdown := none }).changeMode .park).finish
    else s)

/-! ## Warm-up -/

/-- The end of a warm-up (R159). -/
def State.endWarmup (s : State) : State :=
  match s.track.completion with
  | .survey _ => s.beginSweep
  | .resume _ | .none => (s.changeMode s.track.speed.mode).completeResume .done

/-- The warm-up has reached W × 10 with DRIVE_READY active (R159). -/
def State.warmupOver (s : State) : Bool :=
  s.track.mode == .warmup && decide (10 * s.track.warmW ≤ s.track.warmCount) && s.active .driveReady

/-- WARMUP_END (R159). -/
def execWarmupEnd (s : State) : Host.Outcome State Fault Refusal := .next (if s.warmupOver then s.endWarmup.finish else s)

/-- The warm-up has reached 5 × W × 10 with DRIVE_READY inactive (R159). -/
def State.warmupFailed (s : State) : Bool :=
  s.track.mode == .warmup && decide (50 * s.track.warmW ≤ s.track.warmCount) && !s.active .driveReady

/-- WARMUP_DRIVE_FAIL (R159). -/
def execWarmupDriveFail (s : State) : Host.Outcome State Fault Refusal :=
  .next (if s.warmupFailed then (s.raiseFault .driveFail .none none).finish else s)

/-! ## Step events -/

/-- The carrier's count after a pulse: its overrun at B, its stop point at Pt (R44, R46, R47). -/
def State.countFront (s : State) (c : CarrierId) : State :=
  let p := (s.car c).passage
  let n := satInc 4095 p.n
  let s := s.modCar c fun r => { r with passage := { r.passage with n := n } }
  let s := if p.n < n ∧ p.stopPoint = some n then s.applyDriveOf c else s
  if p.n < n ∧ n = p.budget then s.checkStretch c else s

/-- The carrier's trail count after a pulse: its TAIL overrun at T (R49). -/
def State.countTail (s : State) (c : CarrierId) : State :=
  let p := (s.car c).passage
  let t := satInc 4095 p.t
  let s := s.modCar c fun r => { r with passage := { r.passage with t := t } }
  if p.t < t ∧ t = p.trailBudget then s.checkWatch c else s

/-- The pulses of a step event counted for one carrier, by the latches as the step event found them (R31, R46, R49). -/
def State.countCarrier (l : Latches) (s : State) (c : CarrierId) : State :=
  let p := (s.car c).passage
  let s := if s.stretchLatch l p.stretch then s.countFront c else s
  if watchLatch l p.watch then s.countTail c else s

/-- The sweep's part in a step event (R169). -/
def SurveyRec.sweepStep (v : SurveyRec) : SurveyRec :=
  { v with sweepCount := v.sweepCount - 1, markers := v.markers.map fun m => { m with count := satInc 4095 m.count } }

/-- Whether Q_s gives a pulse at a step event: its latch is active, or a jog of it runs (R31, R52). -/
def spurPulses (l : Latches) (j : Option Jog) (i : StationId) : Bool :=
  tget l.q i ||
    match j with
    | some j => j.target == .spur i && decide (0 < j.remaining)
    | none => false

/-- The clearing counts at a step event (R172). -/
def SurveyRec.clearStep (v : SurveyRec) (pulsed : StationId → Bool) : SurveyRec :=
  { v with clearing := Vector.ofFn fun i => if pulsed i then (tget v.clearing i).pulse else tget v.clearing i }

/-- A jog at a step event (R114). -/
def Jog.step (j : Jog) : Jog :=
  if 0 < j.remaining then { j with remaining := j.remaining - 1, delivered := j.delivered + 1 } else j

/-- A step event (R38): the next interval begins with the divisor then in force, the survey's and the jog's counts advance, and
the pulses are counted for each carrier. The divisor is read before the pulses are counted: where an overrun among them makes the mode
HOLD while a jog runs, the interval that begins keeps the divisor of the mode before (DESIGN CHOICE, log entry 9). -/
def State.stepPulse (s : State) : State :=
  let l := s.line.latches
  let pulsed := spurPulses l s.cars.jog
  let s := { s with gen := ⟨s.divisor⟩ }
  let s := if s.sweeping then s.modSurvey SurveyRec.sweepStep else s.modSurvey fun v => v.clearStep pulsed
  let s := s.setJog (s.cars.jog.map Jog.step)
  allCarriers.foldl (fun s c => s.countCarrier l c) s

/-- STEP_EVENT (R38); a stopped generator gives none (R37). -/
def execStepEvent (s : State) : Host.Outcome State Fault Refusal :=
  .next (if s.gen.interval.isSome then s.stepPulse.finish else s)

/-- The jog's last step has been delivered (R114). -/
def State.jogOver (s : State) : Bool :=
  match s.cars.jog with
  | some j => j.remaining == 0
  | none => false

/-- JOG_COMPLETE (R114): the generator then runs or stops by R37. -/
def execJogComplete (s : State) : Host.Outcome State Fault Refusal := .next (if s.jogOver then s.endJog.setGen else s)

/-! ## Survey -/

/-- The survey acts on its markers (R171). -/
def State.endSweep (s : State) (v : SurveyRec) : State :=
  match v.anonymous with
  | some k => s.surveyFail (.sectionAt k) none
  | none =>
    match v.crowded with
    | some p => s.surveyFail (.sectionAt p.1) p.2
    | none => s.trackAll v

/-- SWEEP_END (R171). -/
def execSweepEnd (s : State) : Host.Outcome State Fault Refusal :=
  .next (match s.track.survey with
    | some v => if s.sweeping && v.sweepCount == 0 then (s.endSweep v).finish else s
    | none => s)

/-- SPUR_CLEARED (R172). -/
def execSpurCleared (i : StationId) (s : State) : Host.Outcome State Fault Refusal :=
  .next (match s.clearingOf i with
    | .driving n b _ => if b ≤ n then ((s.setClearing i .cleared).applySpur i).finish else s
    | _ => s)

end Sys2Proof.Machine
end

