-- ==== Sys2Proof/Machine/MapReqs.lean ====
section
/-! DEFINITION. The requests on the stop map: MAP_OPEN (R12), MAP_WRITE (R14, R6 to R10), MAP_READ (R15) and MAP_CLOSE
(R16, R17). -/

namespace Sys2Proof.Machine

/-! ## MAP_OPEN -/

/-- A carrier at rest: IDLE in a depot, UNKNOWN or OUT (R12). -/
def State.atRest (s : State) (c : CarrierId) : Bool :=
  !(s.car c).inService ||
    ((s.car c).state == .idle && allStations.any fun i => (s.stn i).kind == some .depot && (s.stn i).queue.contains c)

/-- The conditions under which a VALID map may be opened (R12). -/
def State.mayOpen (s : State) : Bool :=
  (s.track.mode == .park || s.track.mode == .hold) && (s.book.orders.all fun o => o.carrier.isNone) &&
    allCarriers.all s.atRest && (allSections.all fun k => (s.sec k).st == .free) && s.cars.jog.isNone

/-- The notes of the occupied spurs (R12). -/
def State.spurNotes (s : State) : Vector (Option (SectionId × Nat)) 12 :=
  Vector.ofFn fun i => if (s.stn i).queue.isEmpty then none else some ((s.stn i).junction, (s.stn i).queue.length)

/-- The stop map replaced. -/
def State.setMap (s : State) (m : StopMap) : State := { s with map := m }

/-- MAP_OPEN judged (R12). -/
def judgeMapOpen (r : Req) (s : State) : Verdict :=
  emptyBody r
    (match s.map.state with
      | .invalid => .accept ((s.setMap { s.map with state := .edit }).done r [])
      | .edit => .accept (s.done r [])
      | .valid =>
        if s.mayOpen then .accept ((s.setMap { s.map with state := .edit, notes := s.spurNotes }).done r []) else .busy .mode)

/-- MAP_OPEN (R12). -/
def execMapOpen (l : Link) (s : State) : Host.Outcome State Fault Refusal := .next (s.request .mapOpen l judgeMapOpen)

/-! ## MAP_WRITE -/

/-- Every SECTION item that is set and numbered below S, all 32 while the LOOP item is unset, has L_k ≥ G + C (R10). -/
def StopMap.fits (m : StopMap) : Bool :=
  allSections.all fun k =>
    match tget m.sections k with
    | some x => (m.loop.isSome && decide (m.sectionCount ≤ k.val)) || decide (m.params.guard + m.params.carrierLen ≤ x.len)
    | none => true

/-- Every station that is set has X_s ≥ C + 8 (R10, R16). -/
def StopMap.exitsFit (m : StopMap) : Bool :=
  allStations.all fun i =>
    match tget m.stations i with
    | some x => decide (m.params.carrierLen + 8 ≤ x.exitLen)
    | none => true

/-- The check of a live item against the rest of the map, made on the map with the item written (R6, R7, R9, R10). -/
def StopMap.admits (m : StopMap) (v : ItemVal) : Bool :=
  let valid := m.state == .valid
  let m' := m.write v
  match v with
  | .window _ (some i) => !valid || m.kindOf i == some .counter
  | .bin _ (some b) => !valid || m.kindOf b.station == some .stock
  | .runRate x => !valid || (decide (1024 ≤ x.divisor) && decide (x.divisor ≤ m.params.slowRate.divisor))
  | .slowRate x => !valid || decide (m.params.runRate.divisor ≤ x.divisor)
  | .number p _ =>
    if p.val = 2 then m'.fits && (!valid || m'.exitsFit)
    else if p.val = 3 then m'.fits
    else true
  | .loop _ | .sectionAt _ _ | .station _ _ | .window _ none | .bin _ none => true

/-- MAP_WRITE judged, in the steps of R14. -/
def judgeMapWrite (r : Req) (s : State) : Verdict :=
  match r.body with
  | g :: i :: fields =>
    match itemRef g.toNat i.toNat with
    | none => .refuse .badValue
    | some x =>
      if fields.length + 2 ≠ x.bodyLen then .refuse .badFormat
      else if x.layout = true ∧ s.map.state ≠ .edit then .refuse .wrongState
      else
        match parseItem x fields with
        | none => .refuse .badValue
        | some v =>
          if s.map.admits v then .accept ((s.setMap (s.map.write v)).done r []).finish else .refuse .badValue
  | _ => .refuse .badFormat

/-- MAP_WRITE (R14). -/
def execMapWrite (l : Link) (s : State) : Host.Outcome State Fault Refusal := .next (s.request .mapWrite l judgeMapWrite)

/-! ## MAP_READ -/

/-- MAP_READ judged (R15); for group 0 the body of the answer is the map state alone (log entry 13). -/
def judgeMapRead (r : Req) (s : State) : Verdict :=
  match r.body with
  | [g, i] =>
    if g = 0#8 then (if i = 0#8 then .accept (s.done r [byte1 s.map.state.code]) else .refuse .badValue)
    else
      match itemRef g.toNat i.toNat with
      | some x => .accept (s.done r (g :: i :: s.map.fields x))
      | none => .refuse .badValue
  | _ => .refuse .badFormat

/-- MAP_READ (R15). -/
def execMapRead (l : Link) (s : State) : Host.Outcome State Fault Refusal := .next (s.request .mapRead l judgeMapRead)

/-! ## MAP_CLOSE -/

/-- One check of MAP_CLOSE: whether it passes, and the group code, item index and check number it is refused with (R16). -/
structure MapCheck where
  passes : Bool
  group  : Nat
  index  : Nat
  number : Nat
  deriving DecidableEq, Repr

/-- The checks of section k (R16, checks 2 and 3). -/
def StopMap.sectionChecks (m : StopMap) (k : SectionId) : List MapCheck :=
  [⟨(tget m.sections k).isSome, 2, k.val, 2⟩, ⟨decide (m.params.guard + m.params.carrierLen ≤ m.sectionLen k), 2, k.val, 3⟩]

/-- No lower-numbered station has the same junction (R16, check 5). -/
def StopMap.junctionFree (m : StopMap) (i : StationId) (x : StationItem) : Bool :=
  allStations.all fun j =>
    decide (i.val ≤ j.val) || match tget m.stations j with
      | some y => y.junction != x.junction
      | none => true

/-- Check 7: what MAP_OPEN noted of a station still holds (R16). -/
def StopMap.noteHolds (m : StopMap) (i : StationId) : Bool :=
  match tget m.notes i with
  | none => true
  | some n =>
    match tget m.stations i with
    | some x => x.kind == .depot && x.junction == n.1 && decide (n.2 ≤ x.capacity)
    | none => false

/-- Check 8: the orders that name a station find it of their kind (R16). -/
def State.ordersHold (s : State) (i : StationId) : Bool :=
  s.book.orders.all fun o =>
    (o.counter != i || s.map.kindOf i == some .counter) &&
      (!(o.lines.any fun l => l.station == i) || s.map.kindOf i == some .stock)

/-- The checks of a station (R16, checks 4 to 8). -/
def State.stationChecks (s : State) (i : StationId) : List MapCheck :=
  let n := stationNum i
  (match tget s.map.stations i with
    | some x =>
      [⟨decide (x.junction.val < s.S), 3, n, 4⟩, ⟨s.map.junctionFree i x, 3, n, 5⟩,
        ⟨decide (s.map.params.carrierLen + 8 ≤ x.exitLen), 3, n, 6⟩]
    | none => []) ++
  [⟨s.map.noteHolds i, 3, n, 7⟩, ⟨s.ordersHold i, 3, n, 8⟩]

/-- The sum of the capacities of the DEPOT stations (R16, check 10). -/
def StopMap.depotPlaces (m : StopMap) : Nat :=
  allStations.foldl (fun n i =>
    match tget m.stations i with
    | some x => if x.kind = .depot then n + x.capacity else n
    | none => n) 0

/-- The checks of the station set (R16, checks 9 and 10). -/
def State.setChecks (s : State) : List MapCheck :=
  let has := fun k => allStations.any fun i => s.map.kindOf i == some k
  [⟨has .stock && has .counter && has .depot, 3, 0, 9⟩,
    ⟨decide (allCarriers.countP (fun c => (s.car c).state != .out) ≤ s.map.depotPlaces), 3, 0, 10⟩]

/-- The checks of the windows, the bin ranges and the rates (R16, checks 11 to 14). -/
def StopMap.liveChecks (m : StopMap) : List MapCheck :=
  ((List.finRange 16).map fun w =>
    ⟨match tget m.windows w with
      | some i => m.kindOf i == some .counter
      | none => true, 4, w.val + 1, 11⟩) ++
  ((List.finRange 8).map fun e =>
    ⟨match tget m.bins e with
      | some b => m.kindOf b.station == some .stock
      | none => true, 5, e.val, 12⟩) ++
  [⟨decide (1024 ≤ m.params.runRate.divisor), 6, 5, 13⟩,
    ⟨decide (m.params.runRate.divisor ≤ m.params.slowRate.divisor), 6, 6, 14⟩]

/-- Every check of MAP_CLOSE, in the order they are made (R16). -/
def State.mapChecks (s : State) : List MapCheck :=
  ⟨s.map.loop.isSome, 1, 0, 1⟩ :: ((allSections.filter fun k => k.val < s.S).flatMap s.map.sectionChecks) ++
    allStations.flatMap s.stationChecks ++ s.setChecks ++ s.map.liveChecks

/-- The first check that fails (R16). -/
def State.firstFailure (s : State) : Option MapCheck := s.mapChecks.find? fun c => !c.passes

/-- A station record at a MAP_CLOSE: it takes its item's kind, junction and capacity, and keeps its closed flag only as a STOCK
station (R17). -/
def StationRec.adopt (r : StationRec) (x : Option StationItem) : StationRec :=
  match x with
  | some x =>
    { r with kind := some x.kind, junction := x.junction, capacity := x.capacity, closed := r.closed && x.kind == .stock }
  | none => { r with kind := none, junction := 0, capacity := 0, closed := false }

/-- The latches of the outputs the new map does not use set inactive (R30). -/
def Latches.retain (l : Latches) (m : StopMap) : Latches :=
  let keep := fun (i : StationId) (b : Bool) => b && (m.kindOf i).isSome
  { l with
    d := Vector.ofFn fun k => tget l.d k && decide (k.val < m.sectionCount)
    q := Vector.ofFn fun i => keep i (tget l.q i)
    v := Vector.ofFn fun i => keep i (tget l.v i)
    g := Vector.ofFn fun i => keep i (tget l.g i) }

/-- Every carrier tested against R143, under the kinds of the stations as they now stand (R141). -/
def State.retest (s : State) : State :=
  { s with disp := { s.disp with candidates := allCarriers.filter fun c => candidateRec s (s.car c) } }

/-- The records of the sections numbered n and above, n the S of a VALID map, at their values of R55. -/
def SectionTable.retire (t : SectionTable) (n : Nat) : SectionTable :=
  { t with recs := Vector.ofFn fun k => if k.val < n then tget t.recs k else SectionRec.reset }

/-- The map made VALID: the records of sections S..31 are as R55 has them (R17, R30, R55). A record below S keeps its awaited read, and a
station record its awaited dock read: an UNEXPECTED one left by a MAP_OPEN that came between a LEAD and its read result stays, since R17
and R55 name no clearing of it (DESIGN CHOICE, log entry 9). -/
def State.closeMap (s : State) : State :=
  let s := s.setMap { s.map with state := .valid, notes := Vector.replicate 12 none }
  let s := { s with secs := s.secs.retire s.map.sectionCount }
  let s := { s with stations := Vector.ofFn fun i => (s.stn i).adopt (tget s.map.stations i) }
  ((s.modLatches fun l => l.retain s.map).setPopulation 0).retest

/-- MAP_CLOSE judged (R16, R17). -/
def judgeMapClose (r : Req) (s : State) : Verdict :=
  emptyBody r
    (if s.map.state = .edit then
      match s.firstFailure with
      | some c => .refuse (.badMap c.group c.index c.number)
      | none => .accept (s.closeMap.done r [])
    else .refuse .wrongState)

/-- MAP_CLOSE (R16, R17). -/
def execMapClose (l : Link) (s : State) : Host.Outcome State Fault Refusal := .next (s.request .mapClose l judgeMapClose)

end Sys2Proof.Machine
end

