-- ==== Sys2Proof/Machine/OrderReqs.lean ====
section
/-! DEFINITION. The requests on orders (R122 to R134, R139) and on stock stations (R96). Each is a verdict of the block that owns
the state, run by `State.request`. -/

namespace Sys2Proof.Machine

/-! ## PLACE -/

/-- The lines of a PLACE, each a bin and a quantity (R122). -/
def placeLines : List Byte → List (Nat × Nat)
  | h :: l :: q :: rest => (word2 h l, q.toNat) :: placeLines rest
  | _ => []

/-- No two lines have the same bin (R122, step 5). -/
def distinctBins : List (Nat × Nat) → Bool
  | [] => true
  | l :: ls => !(ls.any fun x => x.1 == l.1) && distinctBins ls

/-- The lookups of the lines, in line order; none if a line has no source (R122, step 6). -/
def StopMap.sources (m : StopMap) : List (Nat × Nat) → Option (List Line)
  | [] => some []
  | l :: ls =>
    match m.binLookup l.1, m.sources ls with
    | some b, some rest => some (⟨l.1, l.2, b.station, b.restricted, .pending⟩ :: rest)
    | _, _ => none

/-- A wake handed to track control while the map is VALID (R123, R124). -/
def State.handWake (s : State) : State := if s.map.state = .valid then s.wake else s

/-- The mask of the restricted lines (R140). -/
def Order.restrictedMask (o : Order) : Byte := lineMask (·.restricted) o.lines

/-- The HELD notice (R140). -/
def State.heldNotice (s : State) (o : Order) : State :=
  s.notice .service .held 0#8 (byte2 o.ticket ++ [byte1 o.window, byte1 o.origin.code, o.restrictedMask])

/-- The record an accepted PLACE appends (R123, step 1). -/
def newOrder (r : Req) (ticket window : Nat) (counter : StationId) (cls : OrderClass) (lines : List Line) : Order :=
  let restricted := lines.any (·.restricted)
  { ticket := ticket, origin := originOf r.link, originTag := r.tag, window := window, counter := counter, cls := cls,
    lines := lines, stops := [], nextStop := 0, restricted := restricted, state := if restricted then .held else .queued,
    carrier := none, age := 0 }

/-- An order accepted (R121, R123). -/
def State.placeOrder (s : State) (r : Req) (o : Order) : State :=
  let s := { s with book := ⟨s.book.orders ++ [o], nextTicket o.ticket⟩ }
  let s := s.deferred r (byte2 o.ticket)
  let s := if o.restricted then s.heldNotice o else s.raiseOpportunity
  s.handWake.finish

/-- The steps 7 to 9 of R122 on a PLACE whose lines have their sources. -/
def judgePlaceOrder (r : Req) (s : State) (window cls : Byte) (i : StationId) (lines : List Line) : Verdict :=
  if lines.any fun l => l.qty == 0 then .refuse .badValue
  else
    match classOf cls.toNat with
    | none => .refuse .badValue
    | some c =>
      if Config.bookSize ≤ s.book.orders.length then .busy .full
      else .accept (s.placeOrder r (newOrder r s.book.ticket window.toNat i c lines))

/-- PLACE judged, in the steps of R122. -/
def judgePlace (r : Req) (s : State) : Verdict :=
  match r.body with
  | window :: cls :: count :: rest =>
    if s.map.state ≠ .valid then .busy .notReady
    else
      match s.map.windowLookup window.toNat with
      | none => .refuse .noWindow
      | some i =>
        if 1 ≤ count.toNat ∧ count.toNat ≤ 4 ∧ rest.length = 3 * count.toNat then
          if distinctBins (placeLines rest) then
            match s.map.sources (placeLines rest) with
            | none => .refuse .noSource
            | some lines => judgePlaceOrder r s window cls i lines
          else .refuse .badFormat
        else .refuse .badFormat
  | _ => .refuse .badFormat

/-- PLACE (R122, R123). -/
def execPlace (l : Link) (s : State) : Host.Outcome State Fault Refusal := .next (s.request .place l judgePlace)

/-! ## Requests that name a ticket (R126) -/

/-- The order a ticket names, or REFUSED NO_SUCH (R126, step 3). -/
def withOrder (s : State) (hi lo : Byte) (f : Order → Verdict) : Verdict :=
  match s.orderOf (word2 hi lo) with
  | some o => f o
  | none => .refuse .noSuch

/-- The origin check of EXPEDITE, TAKEN and CANCEL (R126, step 4). -/
def originCheck (r : Req) (o : Order) (v : Verdict) : Verdict :=
  if r.link = .counter ∧ o.origin ≠ .counter then .refuse .notPermitted else v

/-- ENDORSE judged (R124). -/
def judgeEndorse (r : Req) (s : State) : Verdict :=
  match r.body with
  | [hi, lo] =>
    withOrder s hi lo fun o =>
      if o.state = .held then
        let s := s.modOrder o.ticket fun x => { x with state := .queued }
        let s := (s.done r []).raiseOpportunity
        .accept s.handWake.finish
      else .refuse .wrongState
  | _ => .refuse .badFormat

/-- ENDORSE (R124). -/
def execEndorse (l : Link) (s : State) : Host.Outcome State Fault Refusal := .next (s.request .endorse l judgeEndorse)

/-- EXPEDITE judged (R125). An order that holds a carrier is in another state whatever its class (log entry 12). -/
def judgeExpedite (r : Req) (s : State) : Verdict :=
  match r.body with
  | [hi, lo] =>
    withOrder s hi lo fun o =>
      originCheck r o
        (if o.state = .held ∨ o.state = .queued then
          .accept ((s.modOrder o.ticket fun x => { x with cls := .rush }).done r [])
        else .refuse .wrongState)
  | _ => .refuse .badFormat

/-- EXPEDITE (R125). -/
def execExpedite (l : Link) (s : State) : Host.Outcome State Fault Refusal := .next (s.request .expedite l judgeExpedite)

/-- The end of an order that holds no carrier, CANCELLED (R134, R136). -/
def State.cancelWaiting (s : State) (r : Req) (o : Order) : State :=
  ((s.removeOrder o.ticket).done r []).completeOrder o .cancelled

/-- A launch requested for a carrier that stands at a dock; none elsewhere (R134). -/
def State.launchFrom (s : State) (c : CarrierId) : State :=
  match (s.car c).place with
  | .docked i => s.requestLaunch i c
  | _ => s

/-- The end of an order CANCELLED with its carrier released as RETURNING (R134, R136). -/
def State.cancelCarried (s : State) (r : Req) (o : Order) (c : CarrierId) : State :=
  let s := (s.removeOrder o.ticket).done r []
  let s := s.becomeReturning c
  let s := if o.state = .atStock then s.launchFrom c else s
  (s.completeOrder o .cancelled).dropFirstCall o

/-- CANCEL judged (R134). -/
def judgeCancel (r : Req) (s : State) : Verdict :=
  match r.body with
  | [hi, lo] =>
    withOrder s hi lo fun o =>
      originCheck r o
        (match o.state with
          | .held | .queued => .accept (s.cancelWaiting r o).finish
          | .assigned | .atStock =>
            if o.lines.any fun l => l.status == .loaded then .refuse .tooLate
            else
              match o.carrier with
              | some c => .accept (s.cancelCarried r o c).finish
              | none => .accept (s.cancelWaiting r o).finish
          | .toCounter | .atCounter => .refuse .tooLate)
  | _ => .refuse .badFormat

/-- CANCEL (R134). -/
def execCancel (l : Link) (s : State) : Host.Outcome State Fault Refusal := .next (s.request .cancel l judgeCancel)

/-- The end of an order DELIVERED, its carrier launched from the counter dock as RETURNING (R133, R136). -/
def State.deliverOrder (s : State) (r : Req) (o : Order) : State :=
  let s := (s.removeOrder o.ticket).done r []
  let s := match o.carrier with
    | some c => (s.becomeReturning c).launchFrom c
    | none => s
  s.completeOrder o .delivered

/-- TAKEN judged (R133). -/
def judgeTaken (r : Req) (s : State) : Verdict :=
  match r.body with
  | [hi, lo] =>
    withOrder s hi lo fun o =>
      originCheck r o (if o.state = .atCounter then .accept (s.deliverOrder r o).finish else .refuse .wrongState)
  | _ => .refuse .badFormat

/-- TAKEN (R133). -/
def execTaken (l : Link) (s : State) : Host.Outcome State Fault Refusal := .next (s.request .taken l judgeTaken)

/-! ## LOADED and SHORT -/

/-- A station is a stop of the order that is already done (R129). -/
def Order.stopPassed (o : Order) (i : StationId) : Bool := (o.stops.take o.nextStop).contains i

/-- The answer to a LOADED or SHORT at a station that is not the order's current stop with its carrier docked (R129, R130). -/
def Order.notHere (o : Order) (i : StationId) : Verdict := .refuse (if o.stopPassed i then .tooLate else .wrongState)

/-- The carrier that stands at the current stop of an AT_STOCK order, if that stop is the station (R129). -/
def Order.carrierAt (o : Order) (i : StationId) : Option CarrierId :=
  if o.state = .atStock ∧ o.current = some i then o.carrier else none

/-- The lines of an order changed where a test of the line and its index holds. -/
def Order.mark (o : Order) (x : LineStatus) (f : Line → Nat → Bool) : Order :=
  { o with lines := o.lines.zipIdx.map fun l => if f l.1 l.2 then { l.1 with status := x } else l.1 }

/-- A line at a station still PENDING (R129). -/
def Line.pendingAt (l : Line) (i : StationId) : Bool := l.station == i && l.status == .pending

/-- The PENDING lines at a stop LOADED, the load class raised, the stop done (R129, R131). -/
def State.loadStop (s : State) (r : Req) (o : Order) (i : StationId) (c : CarrierId) (load : Nat) : State :=
  let o := o.mark .loaded fun l _ => l.pendingAt i
  let s := s.modOrder o.ticket fun _ => o
  let s := s.modCar c fun x => { x with load := max x.load (min load 3) }
  s.stopDone r o c i

/-- LOADED judged (R129). -/
def judgeLoaded (r : Req) (s : State) : Verdict :=
  match r.body with
  | [hi, lo, st, load] =>
    match stationOf st.toNat with
    | none => .refuse .badValue
    | some i =>
      withOrder s hi lo fun o =>
        match o.carrierAt i with
        | some c => .accept (s.loadStop r o i c load.toNat).finish
        | none => o.notHere i
  | _ => .refuse .badFormat

/-- LOADED (R129). -/
def execLoaded (l : Link) (s : State) : Host.Outcome State Fault Refusal := .next (s.request .loaded l judgeLoaded)

/-- The named PENDING lines at a stop SHORT, the stop done if none remains PENDING there (R130, R131). -/
def State.shortStop (s : State) (r : Req) (o : Order) (i : StationId) (c : CarrierId) (mask : Byte) : State :=
  let o := o.mark .short fun l n => l.pendingAt i && mask.getLsbD n
  let s := s.modOrder o.ticket fun _ => o
  if o.lines.any fun l => l.pendingAt i then s.done r [] else s.stopDone r o c i

/-- SHORT judged (R130). -/
def judgeShort (r : Req) (s : State) : Verdict :=
  match r.body with
  | [hi, lo, st, mask] =>
    match stationOf st.toNat with
    | none => .refuse .badValue
    | some i =>
      if 16 ≤ mask.toNat then .refuse .badValue
      else
        withOrder s hi lo fun o =>
          match o.carrierAt i with
          | some c => .accept (s.shortStop r o i c mask).finish
          | none => o.notHere i
  | _ => .refuse .badFormat

/-- SHORT (R130). -/
def execShort (l : Link) (s : State) : Host.Outcome State Fault Refusal := .next (s.request .short l judgeShort)

/-! ## QUERY -/

/-- Part 0 of a QUERY (R139). -/
def Order.part0 (o : Order) : List Byte :=
  byte2 o.ticket ++
    [0#8, byte1 o.origin.code, o.originTag, byte1 o.window, byte1 (stationNum o.counter), byte1 o.cls.code, byte1 o.state.code,
      flagByte o.restricted, carrierByte o.carrier] ++
    byte2 o.age ++ [byte1 o.nextStop, byte1 o.stops.length] ++ (List.range 4).map fun n => stationByte o.stops[n]?

/-- One line in part 1 of a QUERY (R139). -/
def Line.bytes (l : Line) : List Byte :=
  byte2 l.bin ++
    [byte1 l.qty, byte1 (stationNum l.station + 16 * l.status.code + (if l.restricted then 64 else 0))]

/-- Part 1 of a QUERY (R139). -/
def Order.part1 (o : Order) : List Byte := byte2 o.ticket ++ [1#8, byte1 o.lines.length] ++ o.lines.flatMap Line.bytes

/-- QUERY judged (R126, R139). -/
def judgeQuery (r : Req) (s : State) : Verdict :=
  match r.body with
  | [hi, lo, part] =>
    if 2 ≤ part.toNat then .refuse .badValue
    else withOrder s hi lo fun o => .accept (s.done r (if part.toNat = 0 then o.part0 else o.part1))
  | _ => .refuse .badFormat

/-- QUERY (R139). -/
def execQuery (l : Link) (s : State) : Host.Outcome State Fault Refusal := .next (s.request .query l judgeQuery)

/-! ## CLOSE_STATION and OPEN_STATION -/

/-- The STOCK station a body names, by the map as it stands (R96). -/
def stockStation (s : State) (body : List Byte) (f : StationId → Verdict) : Verdict :=
  match body with
  | [b] =>
    match stationOf b.toNat with
    | some i => if s.map.kindOf i = some .stock then f i else .refuse .badValue
    | none => .refuse .badValue
  | _ => .refuse .badFormat

/-- CLOSE_STATION judged (R96). -/
def judgeCloseStation (r : Req) (s : State) : Verdict :=
  stockStation s r.body fun i => .accept ((s.modStn i fun x => { x with closed := true }).done r [])

/-- CLOSE_STATION (R96). -/
def execCloseStation (l : Link) (s : State) : Host.Outcome State Fault Refusal :=
  .next (s.request .closeStation l judgeCloseStation)

/-- OPEN_STATION judged: one that clears the flag is a dispatch opportunity (R96). -/
def judgeOpenStation (r : Req) (s : State) : Verdict :=
  stockStation s r.body fun i =>
    if (s.stn i).closed then
      .accept (((s.modStn i fun x => { x with closed := false }).done r []).raiseOpportunity).finish
    else .accept (s.done r [])

/-- OPEN_STATION (R96). -/
def execOpenStation (l : Link) (s : State) : Host.Outcome State Fault Refusal :=
  .next (s.request .openStation l judgeOpenStation)

end Sys2Proof.Machine
end

