-- ==== Sys2Proof/Machine/Reads.lean ====
section
/-! DEFINITION. The requests that read a record: READ_TRACK and CLEAR_CAUSE (R166), READ_SECTION (R75), READ_STATION (R97),
READ_CARRIER (R115) and READ_LINES (R34). -/

namespace Sys2Proof.Machine

/-! ## READ_TRACK and CLEAR_CAUSE -/

/-- The speed selector's code (R156). -/
def Speed.code : Speed → Nat
  | .run => 0
  | .slow => 1

/-- The settle selector's code (R156). -/
def Settle.code : Settle → Nat
  | .hold => 0
  | .park => 1

/-- The pending completion's code (R166). -/
def Completion.code : Completion → Nat
  | .none => 0
  | .resume _ => 1
  | .survey _ => 2

/-- The survey phase's code (R166). -/
def surveyCode : Option SurveyRec → Nat
  | none => 0
  | some v =>
    match v.phase with
    | .awaitingWarmup => 1
    | .sweep => 2
    | .clearing => 3
    | .returning => 4

/-- Bytes 4 to 9 of READ_TRACK. The manual gives no value for the place number without a place, nor for the place number and the
second count while the record is absent: three free values stand there (log entry 4). -/
def faultBytes (f : Option FaultRec) (x y z : Byte) : List Byte :=
  match f with
  | some f => [byte1 f.kind.code, f.place.kindByte, f.place.numberByte x, carrierByte f.carrier] ++ byte2 f.second
  | none => [0#8, 0xFF#8, x, 0xFF#8, y, z]

/-- The body of READ_TRACK (R166). -/
def TrackControl.bytes (t : TrackControl) (x y z : Byte) : List Byte :=
  [byte1 t.mode.code, byte1 t.speed.code, byte1 t.settle.code,
    packByte [t.autoParked, t.faultFlag, t.causePower, t.causePin, t.causeService]] ++
  faultBytes t.firstFault x y z ++
  [byte1 t.laterFaults, byte1 t.completion.code] ++
  (if t.mode = .warmup then byte2 t.warmCount else [0#8, 0#8]) ++
  [byte1 (t.countdown.getD 0), byte1 (surveyCode t.survey)]

/-- READ_TRACK judged (R166). -/
def judgeReadTrack (r : Req) (s : State) : Verdict :=
  emptyBody r (.accept
    ((s.useFree 3).done r
      (s.track.bytes (Config.freeByte s.freeCount) (Config.freeByte (s.freeCount + 1)) (Config.freeByte (s.freeCount + 2)))))

/-- READ_TRACK (R166). -/
def execReadTrack (l : Link) (s : State) : Host.Outcome State Fault Refusal := .next (s.request .readTrack l judgeReadTrack)

/-- CLEAR_CAUSE judged (R166). -/
def judgeClearCause (r : Req) (s : State) : Verdict :=
  emptyBody r (.accept
    ((s.modTrack fun t => { t with causePower := false, causePin := false, causeService := false }).done r []))

/-- CLEAR_CAUSE (R166). -/
def execClearCause (l : Link) (s : State) : Host.Outcome State Fault Refusal := .next (s.request .clearCause l judgeClearCause)

/-! ## READ_SECTION -/

/-- A section state's code (R75). -/
def SecState.code : SecState → Nat
  | .free => 0
  | .reserved _ _ => 1
  | .occupied _ => 2
  | .trailing _ => 3

/-- The holder field of a section (R75). -/
def SecState.holderByte : SecState → Byte
  | .free => 0xFF#8
  | .reserved c _ => byte1 c.val
  | .occupied c => byte1 c.val
  | .trailing c => byte1 c.val

/-- The reservation way's code (R75). -/
def SecState.wayCode : SecState → Nat
  | .reserved _ .loop => 1
  | .reserved _ .merge => 2
  | .free | .occupied _ | .trailing _ => 0

/-- The body of READ_SECTION (R75). -/
def State.sectionBytes (s : State) (k : SectionId) : List Byte :=
  let r := s.sec k
  [byte1 k.val, byte1 r.st.code, r.st.holderByte, byte1 r.st.wayCode, flagByte r.tailPending, stationByte r.spurPlace,
    carrierByte r.loopClaim, stationByte r.mergeClaim, byte1 r.passovers, byte1 s.secs.population,
    byte1 s.map.admissionLimit, byte1 s.secs.strayEdges]

/-- The stray-edge count cleared (R75). -/
def State.clearStrayEdges (s : State) : State := { s with secs := { s.secs with strayEdges := 0 } }

/-- READ_SECTION judged; on the service link alone it clears the stray-edge count (R75). -/
def judgeReadSection (r : Req) (s : State) : Verdict :=
  match r.body with
  | [b] =>
    match sectionOf b.toNat with
    | some k => .accept ((if r.link = .service then s.clearStrayEdges else s).done r (s.sectionBytes k))
    | none => .refuse .badValue
  | _ => .refuse .badFormat

/-- READ_SECTION (R75). -/
def execReadSection (l : Link) (s : State) : Host.Outcome State Fault Refusal :=
  .next (s.request .readSection l judgeReadSection)

/-! ## READ_STATION -/

/-- The dock state's code (R97). -/
def Dock.code : Dock → Nat
  | .empty => 0
  | .docked _ => 1
  | .launching _ => 2

/-- The dock carrier (R76). -/
def Dock.carrier : Dock → Option CarrierId
  | .empty => none
  | .docked c => some c
  | .launching c => some c

/-- The body of READ_STATION (R97). -/
def StationRec.bytes (r : StationRec) (i : StationId) : List Byte :=
  [byte1 (stationNum i), byte1 (kindCode r.kind), byte1 r.dock.code, carrierByte r.dock.carrier, carrierByte r.movingUp,
    carrierByte r.launchPending, flagByte r.launchGranted, byte1 r.inbound, carrierByte r.entryPending, byte1 r.calls,
    flagByte r.closed, byte1 r.queue.length] ++
  r.queue.map fun c => byte1 c.val

/-- READ_STATION judged (R97). -/
def judgeReadStation (r : Req) (s : State) : Verdict :=
  match r.body with
  | [b] =>
    match stationOf b.toNat with
    | some i => .accept (s.done r ((s.stn i).bytes i))
    | none => .refuse .badValue
  | _ => .refuse .badFormat

/-- READ_STATION (R97). -/
def execReadStation (l : Link) (s : State) : Host.Outcome State Fault Refusal :=
  .next (s.request .readStation l judgeReadStation)

/-! ## READ_CARRIER -/

/-- The body of READ_CARRIER (R115). -/
def CarrierRec.bytes (r : CarrierRec) (c : CarrierId) : List Byte :=
  [byte1 c.val, byte1 r.state.code, byte1 r.place.kindCode, r.place.numberByte] ++ byte2 (r.order.getD 0) ++
    [stationByte r.dest, byte1 (r.load + 16 * r.goArounds),
      packByte [r.stall.stretch == some .front, r.stall.tail, r.stall.stretch == some .launch, r.stall.stretch == some .dock,
        r.suspect, r.retirePending],
      byte1 (r.passage.stretch.code + (if r.passage.watch.isSome then 8 else 0) + 16 * r.misreads)] ++
    byte2 r.passage.n ++ byte2 r.passage.budget ++ byte2 (r.passage.stopPoint.getD 0) ++ byte2 r.passage.t ++
    byte2 r.passage.trailBudget

/-- READ_CARRIER judged (R115). -/
def judgeReadCarrier (r : Req) (s : State) : Verdict :=
  match r.body with
  | [b] =>
    match carrierOf b.toNat with
    | some c => .accept (s.done r ((s.car c).bytes c))
    | none => .refuse .badValue
  | _ => .refuse .badFormat

/-- READ_CARRIER (R115). -/
def execReadCarrier (l : Link) (s : State) : Host.Outcome State Fault Refusal :=
  .next (s.request .readCarrier l judgeReadCarrier)

/-! ## READ_LINES -/

/-- The flags of READ_LINES, group by group (R34). -/
def State.lineBytes (s : State) : List Byte :=
  packBits 4 (allSections.map fun k => s.active (.entry k)) ++
  packBits 2 ((allStations.map fun i => s.active (.spurEntry i)) ++ [s.active .driveReady]) ++
  packBits 2 (allStations.map fun i => s.active (.dock i)) ++
  packBits 4 s.line.latches.d.toList ++
  packBits 2 (s.line.latches.q.toList ++ [s.line.latches.driveOn]) ++
  packBits 2 s.line.latches.v.toList ++ packBits 2 s.line.latches.g.toList ++ [byte1 s.line.stray]

/-- The stray-read count cleared (R34). -/
def State.clearStrayReads (s : State) : State := { s with line := { s.line with stray := 0 } }

/-- READ_LINES judged (R34). -/
def judgeReadLines (r : Req) (s : State) : Verdict := emptyBody r (.accept (s.clearStrayReads.done r s.lineBytes))

/-- READ_LINES (R34). -/
def execReadLines (l : Link) (s : State) : Host.Outcome State Fault Refusal := .next (s.request .readLines l judgeReadLines)

end Sys2Proof.Machine
end

