-- ==== Sys2Proof/Machine/TrackReqs.lean ====
section
/-! DEFINITION. The requests on the track: SET_MODE (R156), SETTLE (R157), RESUME (R158), RECOVER (R165), SURVEY (R168), and the
three kinds of reset (R167, R2, R35, R40, R55, R77, R100, R120, R154, R185). -/

namespace Sys2Proof.Machine

/-! ## Modes -/

/-- A speed selector's code read (R156). -/
def speedOf : Nat → Option Speed
  | 0 => some .run
  | 1 => some .slow
  | _ => none

/-- A settle selector's code read (R156). -/
def settleOf : Nat → Option Settle
  | 0 => some .hold
  | 1 => some .park
  | _ => none

/-- The selectors written; a track that runs changes to the new speed (R156). -/
def State.setMode (s : State) (r : Req) (v : Speed) (w : Settle) : State :=
  let s := (s.modTrack fun t => { t with speed := v, settle := w }).done r []
  if s.track.mode.dispatches then s.changeMode v.mode else s

/-- SET_MODE judged (R156). -/
def judgeSetMode (r : Req) (s : State) : Verdict :=
  match r.body with
  | [a, b] =>
    match speedOf a.toNat, settleOf b.toNat with
    | some v, some w => .accept (s.setMode r v w).finish
    | _, _ => .refuse .badValue
  | _ => .refuse .badFormat

/-- SET_MODE (R156). -/
def execSetMode (l : Link) (s : State) : Host.Outcome State Fault Refusal := .next (s.request .setMode l judgeSetMode)

/-- A SETTLE's effect on the mode, a pending RESUME and a survey (R157). -/
def State.settle (s : State) : State :=
  let rest := s.track.settle.mode
  match s.track.mode with
  | .run | .slow | .hold => s.changeMode rest
  | .warmup => ((s.changeMode rest).completeResume .aborted).abortSurvey
  | .survey => s.abortSurvey.changeMode rest
  | .park => s

/-- SETTLE judged (R157). -/
def judgeSettle (r : Req) (s : State) : Verdict :=
  emptyBody r (.accept (((s.modTrack fun t => { t with autoParked := false }).done r []).settle).finish)

/-- SETTLE (R157). -/
def execSettle (l : Link) (s : State) : Host.Outcome State Fault Refusal := .next (s.request .settle l judgeSettle)

/-- A request that needs a VALID map and a clear fault flag (R158, R168). -/
def ifSound (s : State) (v : Verdict) : Verdict :=
  match s.map.state with
  | .edit => .busy .mapEdit
  | .invalid => .busy .notReady
  | .valid => if s.track.faultFlag then .refuse .faulted else v

/-- RESUME from PARK (R158). -/
def State.resumeFromPark (s : State) (r : Req) : State :=
  ((s.modTrack fun t => { t with autoParked := false, completion := .resume r.tag }).deferred r []).enterWarmup

/-- RESUME judged (R158). -/
def judgeResume (r : Req) (s : State) : Verdict :=
  emptyBody r (ifSound s
    (match s.track.mode with
      | .warmup => .busy .inProgress
      | .survey => .busy .mode
      | .hold => .accept ((s.done r []).changeMode s.track.speed.mode).finish
      | .run | .slow => .accept (s.done r [])
      | .park => .accept (s.resumeFromPark r).finish))

/-- RESUME (R158). -/
def execResume (l : Link) (s : State) : Host.Outcome State Fault Refusal := .next (s.request .resume l judgeResume)

/-- The fault cleared (R165). -/
def TrackControl.recover (t : TrackControl) : TrackControl := { t with faultFlag := false, firstFault := none, laterFaults := 0 }

/-- RECOVER judged (R165). -/
def judgeRecover (r : Req) (s : State) : Verdict := emptyBody r (.accept ((s.modTrack TrackControl.recover).done r []))

/-- RECOVER (R165). -/
def execRecover (l : Link) (s : State) : Host.Outcome State Fault Refusal := .next (s.request .recover l judgeRecover)

/-- SURVEY judged (R168). -/
def judgeSurvey (r : Req) (s : State) : Verdict :=
  emptyBody r (ifSound s
    (match s.track.mode with
      | .hold | .park => .accept ((s.deferred r []).acceptSurvey r.tag).finish
      | .warmup | .run | .slow | .survey => .busy .mode))

/-- SURVEY (R168). -/
def execSurvey (l : Link) (s : State) : Host.Outcome State Fault Refusal := .next (s.request .survey l judgeSurvey)

/-! ## Resets -/

/-- Every block but the stop map and the stations at its reset values, with the pins and straps as they stand (R35, R175), and
the three cause flags; RESTARTED stands in each transmit queue (R185). The commands that wait are the model's own. -/
def State.resetBlocks (s : State) (high : List Sensor) (straps : Straps) (power pin service : Bool) : State :=
  { s with
    framing := straps
    line := LineUnit.reset (pinsOf high)
    gen := ⟨none⟩
    time := ⟨0, false⟩
    secs := SectionTable.reset
    cars := CarrierTable.reset
    book := ⟨[], 1⟩
    disp := ⟨[], false⟩
    track := TrackControl.reset power pin service
    links := Links.reset (causeByte power pin service) }

/-- A reset that keeps the stop map, but for its notes, and each station's copies of its item (R2, R77). -/
def State.warmReset (s : State) (high : List Sensor) (straps : Straps) (pin service : Bool) : State :=
  let t := s.resetBlocks high straps s.track.causePower pin service
  { t with
    map := { s.map with notes := Vector.replicate 12 none }
    stations := Vector.ofFn fun i => StationRec.resetWith (s.stn i).kind (s.stn i).junction (s.stn i).capacity }

/-- RESET judged: a service reset, with no answer (R167). -/
def judgeReset (high : List Sensor) (straps : Straps) (r : Req) (s : State) : Verdict :=
  emptyBody r (.accept (s.warmReset high straps s.track.causePin true))

/-- RESET (R167). -/
def execReset (l : Link) (high : List Sensor) (straps : Straps) (s : State) : Host.Outcome State Fault Refusal :=
  .next (s.request .reset l (judgeReset high straps))

/-- PIN_RESET (R167). -/
def execPinReset (high : List Sensor) (straps : Straps) (s : State) : Host.Outcome State Fault Refusal :=
  .next (s.warmReset high straps true s.track.causeService)

/-- POWER_ON_RESET (R2, R167). -/
def execPowerOnReset (high : List Sensor) (straps : Straps) (s : State) : Host.Outcome State Fault Refusal :=
  let t := s.resetBlocks high straps true false false
  .next { t with map := StopMap.reset, stations := Vector.replicate 12 (StationRec.resetWith none 0 0) }

end Sys2Proof.Machine
end

