-- ==== Sys2Proof/Machine/Dispatch.lean ====
section
/-! DEFINITION. The meaning of each command: one arm for each constructor of `Instr`, each one call of that row's meaning. -/

namespace Sys2Proof.Machine

/-- The effect of a command on everything but the queue of commands that wait. -/
def exec (i : Instr) (s : State) : Host.Outcome State Fault Refusal :=
  match i with
  | .powerOnReset high straps => Sys2Proof.Machine.execPowerOnReset high straps s
  | .pinReset high straps => Sys2Proof.Machine.execPinReset high straps s
  | .messageReceived l chars => Sys2Proof.Machine.execMessageReceived l chars s
  | .lengthAbove20 l chars => Sys2Proof.Machine.execLengthAbove20 l chars s
  | .messageGap l chars => Sys2Proof.Machine.execMessageGap l chars s
  | .characterError l chars parityBad stopBad => Sys2Proof.Machine.execCharacterError l chars parityBad stopBad s
  | .linkBreak l chars => Sys2Proof.Machine.execLinkBreak l chars s
  | .transmitComplete l => Sys2Proof.Machine.execTransmitComplete l s
  | .unknownKind l => Sys2Proof.Machine.execUnknownKind l s
  | .place l => Sys2Proof.Machine.execPlace l s
  | .cancel l => Sys2Proof.Machine.execCancel l s
  | .expedite l => Sys2Proof.Machine.execExpedite l s
  | .taken l => Sys2Proof.Machine.execTaken l s
  | .query l => Sys2Proof.Machine.execQuery l s
  | .loaded l => Sys2Proof.Machine.execLoaded l s
  | .short l => Sys2Proof.Machine.execShort l s
  | .endorse l => Sys2Proof.Machine.execEndorse l s
  | .closeStation l => Sys2Proof.Machine.execCloseStation l s
  | .openStation l => Sys2Proof.Machine.execOpenStation l s
  | .setMode l => Sys2Proof.Machine.execSetMode l s
  | .settle l => Sys2Proof.Machine.execSettle l s
  | .resume l => Sys2Proof.Machine.execResume l s
  | .recover l => Sys2Proof.Machine.execRecover l s
  | .survey l => Sys2Proof.Machine.execSurvey l s
  | .reset l high straps => Sys2Proof.Machine.execReset l high straps s
  | .clearCause l => Sys2Proof.Machine.execClearCause l s
  | .admitCarrier l => Sys2Proof.Machine.execAdmitCarrier l s
  | .retire l => Sys2Proof.Machine.execRetire l s
  | .clearCarrier l => Sys2Proof.Machine.execClearCarrier l s
  | .jog l => Sys2Proof.Machine.execJog l s
  | .mapOpen l => Sys2Proof.Machine.execMapOpen l s
  | .mapWrite l => Sys2Proof.Machine.execMapWrite l s
  | .mapRead l => Sys2Proof.Machine.execMapRead l s
  | .mapClose l => Sys2Proof.Machine.execMapClose l s
  | .readTrack l => Sys2Proof.Machine.execReadTrack l s
  | .readSection l => Sys2Proof.Machine.execReadSection l s
  | .readStation l => Sys2Proof.Machine.execReadStation l s
  | .readCarrier l => Sys2Proof.Machine.execReadCarrier l s
  | .readLines l => Sys2Proof.Machine.execReadLines l s
  | .readLink l => Sys2Proof.Machine.execReadLink l s
  | .millisecondEvent high => Sys2Proof.Machine.execMillisecondEvent high s
  | .sensorLevelAccepted x => Sys2Proof.Machine.execSensorLevelAccepted x s
  | .tagReport chars => Sys2Proof.Machine.execTagReport chars s
  | .tagReportTimeout chars => Sys2Proof.Machine.execTagReportTimeout chars s
  | .tagCharacterError chars => Sys2Proof.Machine.execTagCharacterError chars s
  | .tagPortBreak chars => Sys2Proof.Machine.execTagPortBreak chars s
  | .readWindowExpiry r => Sys2Proof.Machine.execReadWindowExpiry r s
  | .stepEvent => Sys2Proof.Machine.execStepEvent s
  | .jogComplete => Sys2Proof.Machine.execJogComplete s
  | .secondEvent => Sys2Proof.Machine.execSecondEvent s
  | .autoparkExpiry => Sys2Proof.Machine.execAutoparkExpiry s
  | .warmupEnd => Sys2Proof.Machine.execWarmupEnd s
  | .warmupDriveFail => Sys2Proof.Machine.execWarmupDriveFail s
  | .sweepEnd => Sys2Proof.Machine.execSweepEnd s
  | .spurCleared j => Sys2Proof.Machine.execSpurCleared j s
  | .linkLineReturnsToMark l => Sys2Proof.Machine.execLinkLineReturnsToMark l s
  | .tagPortReturnsToMark => Sys2Proof.Machine.execTagPortReturnsToMark s

end Sys2Proof.Machine
end

