-- ==== Sys2Proof/Safety.lean ====
section
/-! DEFINITION. What a sound state is, in the terms the statements use: the invariants of the link units (R177, R178, R182), of
the stop map (R16), of track control (R155, R37, R158, R168) and of the order book (R117, R121), each kept by every command; and
the words in which a request's outcome is stated. -/

namespace Sys2Proof.Machine

/-! ## Requests -/

/-- The command that takes a request of a kind from a link; the pins and straps are read by RESET alone. -/
def ReqKind.command (k : ReqKind) (l : Link) (high : List Sensor) (straps : Straps) : Instr :=
  match k with
  | .place => .place l
  | .cancel => .cancel l
  | .expedite => .expedite l
  | .taken => .taken l
  | .query => .query l
  | .loaded => .loaded l
  | .short => .short l
  | .endorse => .endorse l
  | .closeStation => .closeStation l
  | .openStation => .openStation l
  | .setMode => .setMode l
  | .settle => .settle l
  | .resume => .resume l
  | .recover => .recover l
  | .survey => .survey l
  | .reset => .reset l high straps
  | .clearCause => .clearCause l
  | .admitCarrier => .admitCarrier l
  | .retire => .retire l
  | .clearCarrier => .clearCarrier l
  | .jog => .jog l
  | .mapOpen => .mapOpen l
  | .mapWrite => .mapWrite l
  | .mapRead => .mapRead l
  | .mapClose => .mapClose l
  | .readTrack => .readTrack l
  | .readSection => .readSection l
  | .readStation => .readStation l
  | .readCarrier => .readCarrier l
  | .readLines => .readLines l
  | .readLink => .readLink l

/-- The oldest request of a link that waits to be taken has this kind, tag and body (R179). -/
def State.offers (s : State) (l : Link) (k : ReqKind) (tag : Byte) (body : List Byte) : Prop :=
  s.waiting l = some ⟨k.code, tag, body, false⟩

/-- A link unit whose oldest waiting request has been taken and answered. -/
def LinkUnit.replied (u : LinkUnit) (k : AnswerKind) (tag : Byte) (body : List Byte) : LinkUnit :=
  { u with held := takeFirst u.held, tx := u.tx ++ [⟨.answer k, tag, body⟩] }

/-- The state with one link unit replaced. -/
def State.withLink (s : State) (l : Link) (u : LinkUnit) : State := { s with links := s.links.set l u }

/-- The state in which the oldest waiting request of a link has been taken and answered, and nothing else has changed. -/
def State.replied (s : State) (l : Link) (k : AnswerKind) (tag : Byte) (body : List Byte) : State :=
  s.withLink l ((s.link l).replied k tag body)

/-! ## Events -/

/-- The state in which the level due at a sensor has been accepted (R21), with its edge not yet delivered. -/
def State.accepted (s : State) (x : Sensor) : State := s.setFilter x ⟨!(s.filter x).accepted, 0, false⟩

/-- The state with this survey record. -/
def State.withSurvey (s : State) (v : SurveyRec) : State := { s with track := { s.track with survey := some v } }

/-! ## Invariants -/

/-- An answer waits or is being sent in a place of the transmit queue (R182). -/
def TxMsg.isAnswer (m : TxMsg) : Bool :=
  match m.kind with
  | .answer _ => true
  | .notice _ => false

/-- What a partly assembled message may hold: at most 23 characters after the mark byte, and a length byte of at most 20
(R177). -/
def Assembler.sound : Assembler → Bool
  | .hunting => true
  | .assembling chars =>
    match chars with
    | _ :: _ :: len :: rest => decide (len.toNat ≤ Config.maxBody) && decide (rest.length ≤ len.toNat)
    | _ => true

/-- The counts of a link unit within 0..255 (R184). -/
def LinkCounts.sound (c : LinkCounts) : Bool :=
  [c.parity, c.framing, c.check, c.gap, c.overrun, c.brk, c.dropped].all fun n => decide (n ≤ 255)

/-- A link unit is sound: at most 4 held requests, the taken ones first; at most 12 notices queued; exactly one answer queued for
each request taken and not yet answered whole; counts and assembler within their ranges (R177 to R184). -/
def LinkUnit.sound (u : LinkUnit) : Bool :=
  decide (u.held.length ≤ Config.requestPlaces) && (u.held.dropWhile (·.taken)).all (fun h => !h.taken) &&
    decide (u.noticeCount ≤ Config.noticePlaces) && u.tx.countP (·.isAnswer) == u.held.countP (·.taken) &&
    u.counts.sound && u.assembler.sound

/-- The three link units are sound. -/
def State.linksSound (s : State) : Prop := ∀ l, (s.link l).sound = true

/-- A VALID map passes every check of the layout, the windows, the bins and the rates that a later live write could break or that
only an edit may change (R16, checks 1 to 6 and 11 to 14). -/
def StopMap.sound (m : StopMap) : Prop :=
  m.state = .valid →
    m.loop.isSome = true ∧
    (∀ k : SectionId, k.val < m.sectionCount →
      (tget m.sections k).isSome = true ∧ m.params.guard + m.params.carrierLen ≤ m.sectionLen k) ∧
    (∀ i x, tget m.stations i = some x →
      x.junction.val < m.sectionCount ∧ m.params.carrierLen + 8 ≤ x.exitLen ∧
        ∀ j y, tget m.stations j = some y → y.junction = x.junction → j = i) ∧
    (∀ w i, tget m.windows w = some i → m.kindOf i = some .counter) ∧
    (∀ e b, tget m.bins e = some b → m.kindOf b.station = some .stock) ∧
    1024 ≤ m.params.runRate.divisor ∧ m.params.runRate.divisor ≤ m.params.slowRate.divisor

/-- A SURVEY is the pending completion. -/
def Completion.isSurvey : Completion → Bool
  | .survey _ => true
  | .none | .resume _ => false

/-- A RESUME is the pending completion. -/
def Completion.isResume : Completion → Bool
  | .resume _ => true
  | .none | .survey _ => false

/-- Track control is sound: DRIVE_ON and the step generator stand as the mode gives (R155, R37); a survey record is present
exactly while a SURVEY is the pending completion, and only in WARMUP and SURVEY, and in SURVEY always (R168, R174); a RESUME is
pending only in WARMUP (R158), and a survey that waits for its warm-up has not begun its sweep (R168). -/
def State.trackSound (s : State) : Prop :=
  s.line.latches.driveOn = s.track.mode.driveOn ∧
  s.gen.interval.isSome = s.divisor.isSome ∧
  s.track.survey.isSome = s.track.completion.isSurvey ∧
  (s.track.survey.isSome = true → s.track.mode = .warmup ∨ s.track.mode = .survey) ∧
  (s.track.mode = .survey → s.track.survey.isSome = true) ∧
  (s.track.completion.isResume = true → s.track.mode = .warmup) ∧
  (∀ v, s.track.mode = .warmup → s.track.survey = some v → v.phase = .awaitingWarmup)

/-- A ticket 1..65535 (R117). -/
def ticketRange (t : Nat) : Prop := 1 ≤ t ∧ t ≤ 65535

/-- The order book is sound: at most 48 orders with 1 to 4 lines each, no two with the same ticket, and tickets and ticket counter
within 1..65535 (R117, R121). -/
def OrderBook.sound (b : OrderBook) : Prop :=
  b.orders.length ≤ Config.bookSize ∧ b.orders.Pairwise (fun x y => x.ticket ≠ y.ticket) ∧
    (∀ o ∈ b.orders, ticketRange o.ticket ∧ 1 ≤ o.lines.length ∧ o.lines.length ≤ 4) ∧ ticketRange b.counter

/-- The candidate list holds exactly the carriers that meet R143, in ascending number and so each at most once (R141). -/
def State.candidatesSound (s : State) : Prop :=
  (∀ c, s.disp.candidates.contains c = candidateRec s (s.car c)) ∧ s.disp.candidates.Pairwise (· < ·)

end Sys2Proof.Machine
end

