-- ==== Sys2Proof/Certificates/Slice0/Obligations.lean ====
section
/-! DEFINITION. The statements for the provers, in the order of OBLIGATIONS.json. A request's command names its link; the request's
kind, tag and body lie in the link's oldest waiting request (`State.offers`). `State.replied` is the state in which that request
has been taken and answered and nothing else has changed. Answers and notices are written as the bytes of their bodies. -/

section

open Sys2Proof Sys2Proof.Machine

/-! ## The queue of commands -/

/-- The command at the front of the queue is taken, on the state without it. On an empty queue the part idles: that is the model's
choice (log entry 1). -/
def Obligations.StepRunsTheFrontCommand : Prop :=
  (∀ c rest (s : State), s.pending = c :: rest → step s = exec c { s with pending := rest }) ∧
  (∀ s : State, s.pending = [] → step s = .next s)

/-- Every command answers a next state, and leaves the commands that wait behind it. -/
def Obligations.EveryCommandKeepsTheQueue : Prop :=
  ∀ (c : Instr) (s : State), ∃ t, exec c s = .next t ∧ t.pending = s.pending

/-! ## The three links -/

/-- A message received whole while the assembler hunts is read back as its kind, tag and body, and takes a free request place;
with four requests held it is discarded and the overrun count is incremented, stopping at 255 (R177, R178, R186). -/
def Obligations.MessageTakesAPlace : Prop :=
  ∀ (l : Link) (kind tag : Byte) (body : List Byte) (s : State),
    body.length ≤ 20 → (s.link l).brk = false → (s.link l).assembler = .hunting →
    exec (.messageReceived l (envelope kind tag body)) s =
      .next (s.withLink l
          (if (s.link l).held.length < 4 then { (s.link l) with held := (s.link l).held ++ [⟨kind, tag, body, false⟩] }
        else { (s.link l) with counts := { (s.link l).counts with overrun := min ((s.link l).counts.overrun + 1) 255 } }))

/-- A length byte above 20, and a check byte that does not make the sum a multiple of 256, discard the message: the check count is
incremented, stopping at 255, and the assembler hunts (R177). -/
def Obligations.BadMessagesAreDiscarded : Prop :=
  ∀ (l : Link) (kind tag len check : Byte) (body : List Byte) (s : State),
    (s.link l).brk = false → (s.link l).assembler = .hunting →
    (20 < len.toNat →
      exec (.lengthAbove20 l [0xD3#8, kind, tag, len]) s =
        .next (s.withLink l
          { (s.link l) with counts := { (s.link l).counts with check := min ((s.link l).counts.check + 1) 255 } })) ∧
    (len.toNat ≤ 20 → body.length = len.toNat → (kind :: tag :: len :: body).foldl (· + ·) 0#8 + check ≠ 0#8 →
      exec (.messageReceived l ([0xD3#8, kind, tag, len] ++ body ++ [check])) s =
        .next (s.withLink l
          { (s.link l) with counts := { (s.link l).counts with check := min ((s.link l).counts.check + 1) 255 } }))

/-- A gap while a message is being assembled discards it and is counted; while the assembler hunts it changes nothing (R177). A
flagged character discards the message being assembled; it is counted as a framing error if its stop bit is at space, otherwise as
a parity error if parity is strapped on, and the assembler hunts. A break discards the message being assembled and every request
held and not yet taken, without an answer, is counted, and stops the taking of characters; the transmit queue is not touched. When
the line returns to mark the assembler takes characters again (R176). `u` is the link unit after the characters that came before. -/
def Obligations.LineErrorsDiscardMessages : Prop :=
  ∀ (l : Link) (chars : List Byte) (parityBad stopBad : Bool) (s : State) (u : LinkUnit), u = (s.link l).chars chars →
    (u.brk = false →
      ((∃ cs, u.assembler = .assembling cs) → exec (.messageGap l chars) s = .next (s.withLink l
        { u with assembler := .hunting, counts := { u.counts with gap := min (u.counts.gap + 1) 255 } })) ∧
      (u.assembler = .hunting → exec (.messageGap l chars) s = .next (s.withLink l u)) ∧
      (stopBad = true → exec (.characterError l chars parityBad stopBad) s = .next (s.withLink l
        { u with assembler := .hunting, counts := { u.counts with framing := min (u.counts.framing + 1) 255 } })) ∧
      (stopBad = false → parityBad = true → (s.framing.parity = 1 ∨ s.framing.parity = 2) →
        exec (.characterError l chars parityBad stopBad) s = .next (s.withLink l
          { u with assembler := .hunting, counts := { u.counts with parity := min (u.counts.parity + 1) 255 } })) ∧
      exec (.linkBreak l chars) s = .next (s.withLink l
        { u with
          assembler := .hunting
          brk := true
          held := u.held.filter (fun h => h.taken)
          counts := { u.counts with brk := min (u.counts.brk + 1) 255 } })) ∧
    ((s.link l).brk = true → exec (.messageReceived l chars) s = .next s) ∧
    exec (.linkLineReturnsToMark l) s = .next (s.withLink l { (s.link l) with brk := false })

/-- The end of a message's transmission frees its place in the transmit queue, and that of an answer frees the oldest request place
(R178, R182). -/
def Obligations.TransmissionFreesPlaces : Prop :=
  ∀ (l : Link) (m : TxMsg) (rest : List TxMsg) (s : State), (s.link l).tx = m :: rest →
    exec (.transmitComplete l) s =
      .next (s.withLink l
          { (s.link l) with
          tx := rest
          held := match m.kind with
            | .answer _ => (s.link l).held.tail
            | .notice _ => (s.link l).held })

/-- A request of an unknown kind is refused BAD_FORMAT, and one that its link may not make, by the table of R180, NOT_PERMITTED, with no
other change (R179, R180). A permitted request of a kind with one body length is refused BAD_FORMAT at any other length, with no other
change, whatever the state; that a body of MAP_OPEN and of MAP_CLOSE is refused so is the model's reading, their rules saying only that
the body is empty (log entry 7). PLACE, MAP_WRITE and READ_LINK, whose lengths differ, are in PlaceRefusals, MapWrite and RecordsAreRead.
A QUERY's part above 1, the station of LOADED and SHORT outside 1..12 and the mask of SHORT above 15 are BAD_VALUE, and where these pass,
a ticket that no order has is NO_SUCH (R126); a carrier number above 15 is BAD_VALUE (6.5). -/
def Obligations.LinkUnitRefusals : Prop :=
  (∀ (l : Link) (h : Held) (s : State), s.waiting l = some h → (∀ k, ReqKind.code k ≠ h.kind) →
    exec (.unknownKind l) s = .next (s.replied l .refused h.tag [2#8])) ∧
  (∀ (k : ReqKind) (l : Link) high straps (tag : Byte) (body : List Byte) (s : State),
    s.offers l k tag body → k.permitted l = false →
      exec (k.command l high straps) s = .next (s.replied l .refused tag [1#8])) ∧
  (∀ k : ReqKind, k.permitted .service = true ∧
    (k.permitted .counter = true ↔ k ∈ [.place, .cancel, .expedite, .taken, .query, .readSection, .readCarrier, .readLink]) ∧
    (k.permitted .stock = true ↔ k ∈ [.query, .loaded, .short, .closeStation, .openStation, .readSection, .readStation,
      .readCarrier, .readLink])) ∧
  (∀ (k : ReqKind) (l : Link) high straps (tag : Byte) (body : List Byte) (s : State),
    s.offers l k tag body → k.permitted l = true →
    let length : Option Nat := match k with
      | .settle | .resume | .recover | .survey | .reset | .clearCause | .mapOpen | .mapClose | .readTrack | .readLines => some 0
      | .closeStation | .openStation | .retire | .clearCarrier | .readSection | .readStation | .readCarrier => some 1
      | .endorse | .expedite | .taken | .cancel | .setMode | .admitCarrier | .mapRead => some 2
      | .query | .jog => some 3
      | .loaded | .short => some 4
      | .place | .mapWrite | .readLink => none
    (∀ n, length = some n → body.length ≠ n →
      exec (k.command l high straps) s = .next (s.replied l .refused tag [2#8])) ∧
    (k ∈ [.endorse, .expedite, .taken, .cancel, .query, .loaded, .short] → length = some body.length →
      ∀ hi lo rest, body = hi :: lo :: rest →
        let outOfRange : Prop := match k, rest with
          | .query, [part] => 2 ≤ part.toNat
          | .loaded, [st, _] => st = 0#8 ∨ 13 ≤ st.toNat
          | .short, [st, mask] => st = 0#8 ∨ 13 ≤ st.toNat ∨ 16 ≤ mask.toNat
          | _, _ => False
        (outOfRange → exec (k.command l high straps) s = .next (s.replied l .refused tag [3#8])) ∧
        (¬ outOfRange → s.orderOf (hi.toNat * 256 + lo.toNat) = none →
          exec (k.command l high straps) s = .next (s.replied l .refused tag [6#8]))) ∧
    (∀ b, body = [b] → k = .retire ∨ k = .clearCarrier ∨ k = .readCarrier → 16 ≤ b.toNat →
      exec (k.command l high straps) s = .next (s.replied l .refused tag [3#8])))

/-- A BUSY or REFUSED answer leaves the state of every block as it was before the request: of every request, if the message that the
command queues next on its link is such an answer, then taking the request and queuing that answer is all the command did (R181). -/
def Obligations.RefusalChangesNothing : Prop :=
  ∀ (k : ReqKind) (l : Link) high straps (s t : State) (m : TxMsg),
    exec (k.command l high straps) s = .next t → (t.link l).tx[(s.link l).tx.length]? = some m →
    (m.kind = .answer .busy ∨ m.kind = .answer .refused) →
      t = (s.withLink l
          { (s.link l) with held := takeFirst (s.link l).held, tx := (s.link l).tx ++ [m] })

/-! ## Resets -/

/-- A power-on reset returns everything to its reset value, with the sensors taken at their pin levels and the framing of the straps.
A pin reset and a service reset keep the map, but for its notes; set PIN or SERVICE among the cause flags and keep the others; and
return the rest to its reset values. The service reset is not answered; with a body it is refused BAD_FORMAT (R2, R35, R77, R154, R167,
R175, R185). These are the model's choice, since the manual gives them no value: the stations' kind, junction and capacity, NONE, 0 and
0 after power-on and kept by the other two resets, and the W of 0 beside the warm-up count (log entry 3); and the cleared waits of the
tag port and of each link for the end of a break (log entry 5). The commands that wait and the count of free values are the model's
own. -/
def Obligations.Resets : Prop :=
  ∀ (high : List Sensor) (straps : Straps) (s : State),
    let cold : State := { State.reset with
      pending := s.pending, freeCount := s.freeCount, framing := straps, line := LineUnit.reset (pinsOf high) }
    let kept : Bool → Bool → State := fun pin service => { cold with
      map := { s.map with notes := Vector.replicate 12 none }
      stations := Vector.ofFn fun i => { (StationRec.resetWith none 0 0) with
        kind := (s.stn i).kind, junction := (s.stn i).junction, capacity := (s.stn i).capacity }
      track := TrackControl.reset s.track.causePower pin service
      links := Links.reset (causeByte s.track.causePower pin service) }
    exec (.powerOnReset high straps) s = .next cold ∧
    (∀ i : Fin 57, tget (LineUnit.reset (pinsOf high)).filters i = ⟨tget (pinsOf high) i, 0, false⟩) ∧
    exec (.pinReset high straps) s = .next (kept true s.track.causeService) ∧
    (∀ tag, s.offers .service .reset tag [] → exec (.reset .service high straps) s = .next (kept s.track.causePin true)) ∧
    (∀ tag b body, s.offers .service .reset tag (b :: body) →
      exec (.reset .service high straps) s = .next (s.replied .service .refused tag [2#8]))

/-- After any reset the book is empty and the ticket counter is 1, and RESTARTED is all that any link has to send: no COMPLETION and
no other notice tells of the orders lost (R120). -/
def Obligations.ResetEmptiesTheBook : Prop :=
  ∀ (high : List Sensor) (straps : Straps) (s t : State) (tag : Byte),
    (exec (.powerOnReset high straps) s = .next t ∨ exec (.pinReset high straps) s = .next t ∨
      (s.offers .service .reset tag [] ∧ exec (.reset .service high straps) s = .next t)) →
    t.book.orders = [] ∧ t.book.counter = 1 ∧
      ∀ l, ∃ cause, (t.link l).tx = [⟨.notice .restarted, 0#8, [cause]⟩]

/-! ## The stop map -/

/-- MAP_OPEN moves an INVALID map, and a VALID one whose track is at rest, into EDIT, the latter with its notes; leaves a map that is
in EDIT; and is answered BUSY MODE where the track is not at rest (R12). -/
def Obligations.MapOpen : Prop :=
  ∀ (tag : Byte) (s : State), s.offers .service .mapOpen tag [] →
    (s.map.state = .invalid → exec (.mapOpen .service) s =
      .next { (s.replied .service .done tag []) with map := { s.map with state := .edit } }) ∧
    (s.map.state = .edit → exec (.mapOpen .service) s = .next (s.replied .service .done tag [])) ∧
    (s.map.state = .valid →
      ((s.track.mode = .park ∨ s.track.mode = .hold) ∧ (∀ o ∈ s.book.orders, o.carrier = none) ∧
        (∀ c, (s.car c).state = .unknown ∨ (s.car c).state = .out ∨
          ((s.car c).state = .idle ∧ ∃ i, (s.stn i).kind = some .depot ∧ c ∈ (s.stn i).queue)) ∧
        (∀ k, (s.sec k).st = .free) ∧ s.cars.jog = none →
          exec (.mapOpen .service) s =
            .next { (s.replied .service .done tag []) with
              map := { s.map with
                state := .edit
                notes := Vector.ofFn fun i =>
                  if (s.stn i).queue = [] then none else some ((s.stn i).junction, (s.stn i).queue.length) } }) ∧
      (¬ ((s.track.mode = .park ∨ s.track.mode = .hold) ∧ (∀ o ∈ s.book.orders, o.carrier = none) ∧
        (∀ c, (s.car c).state = .unknown ∨ (s.car c).state = .out ∨
          ((s.car c).state = .idle ∧ ∃ i, (s.stn i).kind = some .depot ∧ c ∈ (s.stn i).queue)) ∧
        (∀ k, (s.sec k).st = .free) ∧ s.cars.jog = none) →
          exec (.mapOpen .service) s = .next (s.replied .service .busy tag [4#8])))

/-- The fields MAP_WRITE takes are the fields MAP_READ gives of the item written; a station of kind NONE and an empty bin range read
with every field 0 (R14, R15, R5, R7). -/
def Obligations.ItemsReadBack : Prop :=
  ∀ (m : StopMap) (x : ItemRef) (fields : List Byte) (v : ItemVal), parseItem x fields = some v →
    (m.write v).fields x =
      match v with
      | .station _ none | .bin _ none => List.replicate fields.length 0#8
      | _ => fields

/-- MAP_WRITE in the steps of R14, each with the answer of the first that fails: a body of fewer than 2 bytes, the group code and the index,
the length, a layout item outside EDIT, the ranges of the fields, and the checks of a live item against the rest of the map; a write that
passes them all puts the value into its item, changes no other item, and is answered DONE. The ranges are those of R3 to R8: S 8..32 and
A 0..S−2; a length 32..4095; a kind NONE, which leaves the other fields unchecked, or a junction 0..31, a capacity 1..3 or 1..8, exit and
approach 16..1023; a window's station 0..12; bins 0..4095, the first not above the last, station 0 emptying the entry; and the
parameters' ranges. That a polarity code above 1 and a restricted flag above 1 are out of range is the model's reading (log entry 7). The
live checks are those of R6 and R7, the station's kind, and R9, the divisors, each in a VALID map alone; and of R10: the lengths of the
sections set below S, of all while the LOOP item is unset, in every map state, and the exit lengths in a VALID map. -/
def Obligations.MapWrite : Prop :=
  (∀ (tag : Byte) (body : List Byte) (s : State), s.offers .service .mapWrite tag body → body.length < 2 →
    exec (.mapWrite .service) s = .next (s.replied .service .refused tag [2#8])) ∧
  (∀ (tag g i : Byte) (fields : List Byte) (s : State), s.offers .service .mapWrite tag (g :: i :: fields) →
    (itemRef g.toNat i.toNat = none → exec (.mapWrite .service) s = .next (s.replied .service .refused tag [3#8])) ∧
    ∀ x, itemRef g.toNat i.toNat = some x →
      (fields.length + 2 ≠ x.bodyLen → exec (.mapWrite .service) s = .next (s.replied .service .refused tag [2#8])) ∧
      (fields.length + 2 = x.bodyLen → x.layout = true → s.map.state ≠ .edit →
        exec (.mapWrite .service) s = .next (s.replied .service .refused tag [7#8])) ∧
      (fields.length + 2 = x.bodyLen → (x.layout = true → s.map.state = .edit) →
        (parseItem x fields = none → exec (.mapWrite .service) s = .next (s.replied .service .refused tag [3#8])) ∧
        ∀ v, parseItem x fields = some v →
          (s.map.admits v = false → exec (.mapWrite .service) s = .next (s.replied .service .refused tag [3#8])) ∧
          (s.map.admits v = true → exec (.mapWrite .service) s =
            .next ({ (s.replied .service .done tag []) with map := s.map.write v }).finish))) ∧
  (itemRef 1 0 = some .loop ∧ (∀ k : SectionId, itemRef 2 k.val = some (.sectionAt k)) ∧
    (∀ i : StationId, itemRef 3 (i.val + 1) = some (.station i)) ∧ (∀ w : Fin 16, itemRef 4 (w.val + 1) = some (.window w)) ∧
    (∀ e : Fin 8, itemRef 5 e.val = some (.bin e)) ∧ (∀ p : Fin 12, itemRef 6 (p.val + 1) = some (.param p)) ∧
    (∀ g i, ¬ (g = 1 ∧ i = 0 ∨ g = 2 ∧ i ≤ 31 ∨ g = 3 ∧ 1 ≤ i ∧ i ≤ 12 ∨ g = 4 ∧ 1 ≤ i ∧ i ≤ 16 ∨ g = 5 ∧ i ≤ 7 ∨
      g = 6 ∧ 1 ≤ i ∧ i ≤ 12) → itemRef g i = none) ∧
    ∀ x : ItemRef, (x.bodyLen, x.layout) = match x with
      | .loop => (4, true)
      | .sectionAt _ => (5, true)
      | .station _ => (11, true)
      | .window _ => (3, false)
      | .bin _ => (8, false)
      | .param p => (if p = 4 ∨ p = 5 then 4 else 3, false)) ∧
  (let pol : Byte → Polarity := fun x => if x = 1#8 then .activeLow else .activeHigh
    let wide : Byte → Byte → Nat := fun hi lo => hi.toNat * 256 + lo.toNat
    (∀ n a, parseItem .loop [n, a] =
      if 8 ≤ n.toNat ∧ n.toNat ≤ 32 ∧ a.toNat + 2 ≤ n.toNat then some (.loop ⟨n.toNat, a.toNat⟩) else none) ∧
    (∀ k hi lo p, parseItem (.sectionAt k) [hi, lo, p] =
      if 32 ≤ wide hi lo ∧ wide hi lo ≤ 4095 ∧ p.toNat ≤ 1 then some (.sectionAt k ⟨wide hi lo, pol p⟩) else none) ∧
    (∀ i kind j cap xh xl yh yl pn pk,
      let item := parseItem (.station i) [kind, j, cap, xh, xl, yh, yl, pn, pk]
      (kind = 0#8 → item = some (.station i none)) ∧
      (4 ≤ kind.toNat → item = none) ∧
      ∀ kd : Kind, kind = (match kd with
          | .stock => 1#8
          | .counter => 2#8
          | .depot => 3#8) →
        (∀ jn : SectionId, j.toNat = jn.val → 1 ≤ cap.toNat → cap.toNat ≤ (if kd = .depot then 8 else 3) →
          16 ≤ wide xh xl → wide xh xl ≤ 1023 → 16 ≤ wide yh yl → wide yh yl ≤ 1023 → pn.toNat ≤ 1 → pk.toNat ≤ 1 →
          item = some (.station i (some ⟨kd, jn, cap.toNat, wide xh xl, wide yh yl, pol pn, pol pk⟩))) ∧
        (32 ≤ j.toNat ∨ cap = 0#8 ∨ (if kd = .depot then 8 else 3) < cap.toNat ∨ wide xh xl < 16 ∨ 1023 < wide xh xl ∨
          wide yh yl < 16 ∨ 1023 < wide yh yl ∨ 2 ≤ pn.toNat ∨ 2 ≤ pk.toNat → item = none)) ∧
    (∀ w x, (x = 0#8 → parseItem (.window w) [x] = some (.window w none)) ∧
      (∀ i : StationId, x.toNat = i.val + 1 → parseItem (.window w) [x] = some (.window w (some i))) ∧
      (13 ≤ x.toNat → parseItem (.window w) [x] = none)) ∧
    (∀ e fh fl lh ll x r,
      let item := parseItem (.bin e) [fh, fl, lh, ll, x, r]
      (x = 0#8 → item = some (.bin e none)) ∧ (13 ≤ x.toNat → item = none) ∧
      ∀ i : StationId, x.toNat = i.val + 1 →
        item = if wide fh fl ≤ wide lh ll ∧ wide lh ll ≤ 4095 ∧ r.toNat ≤ 1
          then some (.bin e (some ⟨wide fh fl, wide lh ll, i, r == 1#8⟩)) else none) ∧
    (∀ (p : Fin 12) (low high : Nat), (p, low, high) ∈ ([(0, 0, 50), (1, 0, 10), (2, 8, 255), (3, 8, 255), (6, 1, 7), (7, 1, 8),
        (8, 1, 255), (9, 0, 255), (10, 1, 255), (11, 0, 15)] : List (Fin 12 × Nat × Nat)) →
      ∀ x, parseItem (.param p) [x] = if low ≤ x.toNat ∧ x.toNat ≤ high then some (.number p x.toNat) else none) ∧
    ∀ code d,
      let rate : Option Rate := if code.toNat ≤ 7 ∧ d.toNat ≤ 254 then some ⟨code.toNat, d.toNat⟩ else none
      parseItem (.param 4) [code, d] = rate.map .runRate ∧ parseItem (.param 5) [code, d] = rate.map .slowRate) ∧
  (∀ m : StopMap,
    let steps : Rate → Nat := fun r => 2 ^ r.code * (256 - r.reload)
    let longest : Nat → Prop := fun n => ∀ k x, tget m.sections k = some x →
      (m.loop = none ∨ ∃ y, m.loop = some y ∧ k.val < y.count) → n ≤ x.len
    (∀ x, m.admits (.loop x) = true ∧ m.write (.loop x) = { m with loop := some x }) ∧
    (∀ k x, m.admits (.sectionAt k x) = true ∧ m.write (.sectionAt k x) = { m with sections := tset m.sections k (some x) }) ∧
    (∀ i x, m.admits (.station i x) = true ∧ m.write (.station i x) = { m with stations := tset m.stations i x }) ∧
    (∀ w x, (m.admits (.window w x) = true ↔ (m.state = .valid → ∀ i, x = some i → m.kindOf i = some .counter)) ∧
      m.write (.window w x) = { m with windows := tset m.windows w x }) ∧
    (∀ e x, (m.admits (.bin e x) = true ↔ (m.state = .valid → ∀ b, x = some b → m.kindOf b.station = some .stock)) ∧
      m.write (.bin e x) = { m with bins := tset m.bins e x }) ∧
    (∀ x, (m.admits (.runRate x) = true ↔
        (m.state = .valid → 1024 ≤ steps x ∧ steps x ≤ steps m.params.slowRate)) ∧
      m.write (.runRate x) = { m with params := { m.params with runRate := x } }) ∧
    (∀ x, (m.admits (.slowRate x) = true ↔ (m.state = .valid → steps m.params.runRate ≤ steps x)) ∧
      m.write (.slowRate x) = { m with params := { m.params with slowRate := x } }) ∧
    ∀ n, (m.admits (.number 2 n) = true ↔ longest (m.params.guard + n) ∧
        (m.state = .valid → ∀ i x, tget m.stations i = some x → n + 8 ≤ x.exitLen)) ∧
      (m.admits (.number 3 n) = true ↔ longest (n + m.params.carrierLen)) ∧
      (∀ p : Fin 12, p ≠ 2 → p ≠ 3 → m.admits (.number p n) = true) ∧
      ∀ p : Fin 12, m.write (.number p n) = { m with params := match p with
        | 0 => { m.params with slack := n }
        | 1 => { m.params with loadMargin := n }
        | 2 => { m.params with carrierLen := n }
        | 3 => { m.params with guard := n }
        | 6 => { m.params with goAround := n }
        | 7 => { m.params with stallLimit := n }
        | 8 => { m.params with aging := n }
        | 9 => { m.params with autopark := n }
        | 10 => { m.params with warmup := n }
        | 11 => { m.params with filter := n }
        | _ => m.params })

/-- MAP_READ repeats the group code and the index and gives the item's fields, in any map state; group 0 with index 0 gives the map
state (R15). That the answer to group 0 is the state alone is the model's reading (log entry 13), and so is that group 0 with another
index is refused BAD_VALUE, as an item that does not exist is (log entry 7). -/
def Obligations.MapRead : Prop :=
  ∀ (tag g i : Byte) (s : State), s.offers .service .mapRead tag [g, i] →
    (∀ x, itemRef g.toNat i.toNat = some x →
      exec (.mapRead .service) s = .next (s.replied .service .done tag (g :: i :: s.map.fields x))) ∧
    (g = 0#8 → i = 0#8 → exec (.mapRead .service) s = .next (s.replied .service .done tag
      [match s.map.state with
        | .invalid => 0#8
        | .edit => 1#8
        | .valid => 2#8])) ∧
    (itemRef g.toNat i.toNat = none → ¬ (g = 0#8 ∧ i = 0#8) →
      exec (.mapRead .service) s = .next (s.replied .service .refused tag [3#8]))

/-- MAP_CLOSE outside EDIT is refused WRONG_STATE; in EDIT, the first check that fails is named in REFUSED BAD_MAP. The checks are those of
R16's table, 1 to 14, each with what it passes on, in R16's order: the LOOP item, sections 0..S−1, stations 1..12, the station set, the
windows, the bin ranges and the rates, and within one item in ascending number (R16). Where none fails the map becomes VALID with its
notes cleared, the stations take the kinds, junctions and capacities of the map, only a STOCK station stays closed, the latches of
sections S and above and of stations of kind NONE are inactive, and the records of sections S and above are FREE, with nothing awaited
and nothing else held; no carrier, order or mode changes (R16, R17, R30, R55). That a record below S keeps the read it awaits is the
model's choice (log entry 9). -/
def Obligations.MapClose : Prop :=
  (∀ s : State,
    s.mapChecks.map (fun c => (c.group, c.index, c.number)) =
      [(1, 0, 1)] ++
      (((List.finRange 32).filter fun k => decide (k.val < s.S)).flatMap fun k => [(2, k.val, 2), (2, k.val, 3)]) ++
      ((List.finRange 12).flatMap fun i =>
        if tget s.map.stations i = none then [(3, i.val + 1, 7), (3, i.val + 1, 8)]
        else [(3, i.val + 1, 4), (3, i.val + 1, 5), (3, i.val + 1, 6), (3, i.val + 1, 7), (3, i.val + 1, 8)]) ++
      [(3, 0, 9), (3, 0, 10)] ++ (List.range 16).map (fun w => (4, w + 1, 11)) ++ (List.range 8).map (fun e => (5, e, 12)) ++
      [(6, 5, 13), (6, 6, 14)] ∧
    (∀ c ∈ s.mapChecks, c.passes = true ↔
      (c.number = 1 → s.map.loop ≠ none) ∧
      (∀ k : SectionId, c.index = k.val →
        (c.number = 2 → tget s.map.sections k ≠ none) ∧
        (c.number = 3 → s.map.params.guard + s.map.params.carrierLen ≤ s.map.sectionLen k)) ∧
      (∀ i : StationId, c.index = i.val + 1 →
        (∀ x, tget s.map.stations i = some x →
          (c.number = 4 → x.junction.val < s.S) ∧
          (c.number = 5 → ∀ j < i, ∀ y, tget s.map.stations j = some y → y.junction ≠ x.junction) ∧
          (c.number = 6 → s.map.params.carrierLen + 8 ≤ x.exitLen)) ∧
        (c.number = 7 → ∀ n, tget s.map.notes i = some n →
          ∃ x, tget s.map.stations i = some x ∧ x.kind = .depot ∧ x.junction = n.1 ∧ n.2 ≤ x.capacity) ∧
        (c.number = 8 → ∀ o ∈ s.book.orders, (o.counter = i → s.map.kindOf i = some .counter) ∧
          ((∃ x ∈ o.lines, x.station = i) → s.map.kindOf i = some .stock))) ∧
      (c.number = 9 → ∀ k : Kind, ∃ i, s.map.kindOf i = some k) ∧
      (c.number = 10 → ((List.finRange 16).countP fun d => (s.car d).state != CarState.out) ≤
        ((List.finRange 12).map fun i => match tget s.map.stations i with
          | some x => if x.kind = .depot then x.capacity else 0
          | none => 0).sum) ∧
      (c.number = 11 → ∀ (w : Fin 16) i, c.index = w.val + 1 → tget s.map.windows w = some i → s.map.kindOf i = some .counter) ∧
      (c.number = 12 → ∀ (e : Fin 8) b, c.index = e.val → tget s.map.bins e = some b → s.map.kindOf b.station = some .stock) ∧
      (c.number = 13 → 1024 ≤ s.map.params.runRate.divisor) ∧
      (c.number = 14 → s.map.params.runRate.divisor ≤ s.map.params.slowRate.divisor)) ∧
    (∀ before c after, s.mapChecks = before ++ c :: after → (∀ b ∈ before, b.passes = true) → c.passes = false →
      s.firstFailure = some c) ∧
    ((∀ c ∈ s.mapChecks, c.passes = true) → s.firstFailure = none)) ∧
  ∀ (tag : Byte) (s : State), s.offers .service .mapClose tag [] →
    (s.map.state ≠ .edit → exec (.mapClose .service) s = .next (s.replied .service .refused tag [7#8])) ∧
    (s.map.state = .edit → ∀ c, s.firstFailure = some c →
      exec (.mapClose .service) s =
        .next (s.replied .service .refused tag [10#8, BitVec.ofNat 8 c.group, BitVec.ofNat 8 c.index, BitVec.ofNat 8 c.number])) ∧
    (s.map.state = .edit → s.firstFailure = none →
      ∃ t, exec (.mapClose .service) s = .next t ∧
        t.map = { s.map with state := .valid, notes := Vector.replicate 12 none } ∧
        (∀ i, (t.stn i).kind = s.map.kindOf i ∧ (t.stn i).queue = (s.stn i).queue ∧
          (t.stn i).closed = ((s.stn i).closed && s.map.kindOf i == some .stock) ∧
          ∀ x, tget s.map.stations i = some x → (t.stn i).junction = x.junction ∧ (t.stn i).capacity = x.capacity) ∧
        (∀ k, tget t.line.latches.d k = (tget s.line.latches.d k && decide (k.val < s.map.sectionCount))) ∧
        (∀ i, tget t.line.latches.q i = (tget s.line.latches.q i && (s.map.kindOf i).isSome) ∧
          tget t.line.latches.v i = (tget s.line.latches.v i && (s.map.kindOf i).isSome) ∧
          tget t.line.latches.g i = (tget s.line.latches.g i && (s.map.kindOf i).isSome)) ∧
        (∀ k, k.val < s.map.sectionCount → t.sec k = s.sec k) ∧
        (∀ k, s.map.sectionCount ≤ k.val → t.sec k = SectionRec.reset) ∧
        t.secs.population = 0 ∧ t.cars = s.cars ∧ t.book = s.book ∧ t.track = s.track ∧
        t.links = (s.replied .service .done tag []).links)

/-! ## Invariants -/

/-- The machine right after reset is sound. -/
def Obligations.ResetIsSound : Prop :=
  State.reset.linksSound ∧ State.reset.map.sound ∧ State.reset.trackSound ∧ State.reset.book.sound ∧
    State.reset.candidatesSound

/-- Every step keeps the link units sound: never more than 4 requests held or 12 notices queued, and exactly one answer queued for
each request taken and not yet answered whole, so an answer always finds an answer place (R178, R179, R182). -/
def Obligations.LinksStaySound : Prop :=
  ∀ s t : State, s.linksSound → step s = .next t → t.linksSound

/-- Every step keeps a VALID map valid: no live write, and no other command, breaks the checks of MAP_CLOSE on the layout, the
windows, the bin ranges and the rates (R6, R7, R9, R10, R16). -/
def Obligations.ValidMapStaysValid : Prop :=
  ∀ s t : State, s.map.sound → step s = .next t → t.map.sound

/-- Every step keeps DRIVE_ON and the step generator as the mode gives, and the survey, the pending completion and the mode in
agreement (R37, R155, R158, R168, R174). -/
def Obligations.TrackStaysSound : Prop :=
  ∀ s t : State, s.trackSound → step s = .next t → t.trackSound

/-- Every step keeps the book sound: at most 48 orders of 1 to 4 lines, no two with the same ticket, no ticket 0 (R117, R121). -/
def Obligations.BookStaysSound : Prop :=
  ∀ s t : State, s.book.sound → step s = .next t → t.book.sound

/-- Every step keeps the candidate list as the carriers that meet the conditions of a candidate, in ascending number and each once
(R141, R143). -/
def Obligations.CandidatesStaySound : Prop :=
  ∀ s t : State, s.candidatesSound → step s = .next t → t.candidatesSound

/-! ## Orders -/

/-- An order that passes every test is appended at the tail of the book with a new ticket, HELD if a line is restricted and QUEUED
otherwise; DEFERRED carries the ticket; a HELD order sends HELD to the service link, a QUEUED one is a dispatch opportunity; a wake
is handed to track control (R122, R123). -/
def Obligations.PlaceAppendsAnOrder : Prop :=
  ∀ (l : Link) (tag window cls count : Byte) (rest : List Byte) (s : State) (i : StationId) (lines : List Sys2Proof.Machine.Line)
    (c : OrderClass), (l = .counter ∨ l = .service) → s.offers l .place tag (window :: cls :: count :: rest) →
    s.map.state = .valid → s.map.windowLookup window.toNat = some i → 1 ≤ count.toNat → count.toNat ≤ 4 →
    rest.length = 3 * count.toNat → distinctBins (placeLines rest) = true → s.map.sources (placeLines rest) = some lines →
    (∀ x ∈ lines, x.qty ≠ 0) → classOf cls.toNat = some c → s.book.orders.length < 48 →
    let held := lines.any (fun x => x.restricted)
    let o : Order :=
      { ticket := s.book.ticket, origin := if l = .counter then .counter else .service, originTag := tag, window := window.toNat,
        counter := i, cls := c, lines := lines, stops := [], nextStop := 0, restricted := held,
        state := if held then .held else .queued, carrier := none, age := 0 }
    let placed : State := { (s.replied l .deferred tag (byte2 s.book.ticket)) with
      book := ⟨s.book.orders ++ [o], if s.book.ticket < 65535 then s.book.ticket + 1 else 1⟩ }
    exec (.place l) s =
      .next (if held then
          (placed.notice .service .held 0#8 (byte2 s.book.ticket ++
            [window, if l = .counter then 0#8 else 1#8, packByte (lines.map (fun x => x.restricted))])).wake.finish
        else placed.raiseOpportunity.wake.finish)

/-- A PLACE that fails a test is refused or answered BUSY by the first test it fails, and nothing is changed (R122, R18, R19). -/
def Obligations.PlaceRefusals : Prop :=
  ∀ (l : Link) (tag : Byte) (body : List Byte) (s : State), (l = .counter ∨ l = .service) → s.offers l .place tag body →
    (body.length < 3 → exec (.place l) s = .next (s.replied l .refused tag [2#8])) ∧
    ∀ window cls count rest, body = window :: cls :: count :: rest →
      (s.map.state ≠ .valid → exec (.place l) s = .next (s.replied l .busy tag [2#8])) ∧
      (s.map.state = .valid → s.map.windowLookup window.toNat = none →
        exec (.place l) s = .next (s.replied l .refused tag [4#8])) ∧
      (s.map.state = .valid → (s.map.windowLookup window.toNat).isSome = true →
        ¬ (1 ≤ count.toNat ∧ count.toNat ≤ 4 ∧ rest.length = 3 * count.toNat) ∨ distinctBins (placeLines rest) = false →
        exec (.place l) s = .next (s.replied l .refused tag [2#8])) ∧
      (s.map.state = .valid → (s.map.windowLookup window.toNat).isSome = true →
        1 ≤ count.toNat → count.toNat ≤ 4 → rest.length = 3 * count.toNat → distinctBins (placeLines rest) = true →
        ((∃ x ∈ placeLines rest, s.map.binLookup x.1 = none) → exec (.place l) s = .next (s.replied l .refused tag [5#8])) ∧
        ((∀ x ∈ placeLines rest, (s.map.binLookup x.1).isSome = true) →
          ((∃ x ∈ placeLines rest, x.2 = 0) → exec (.place l) s = .next (s.replied l .refused tag [3#8])) ∧
          ((∀ x ∈ placeLines rest, x.2 ≠ 0) → 3 ≤ cls.toNat →
            exec (.place l) s = .next (s.replied l .refused tag [3#8])) ∧
          ((∀ x ∈ placeLines rest, x.2 ≠ 0) → cls.toNat < 3 → 48 ≤ s.book.orders.length →
            exec (.place l) s = .next (s.replied l .busy tag [1#8]))))

/-- The ticket the next accepted PLACE takes is the counter's value if no order has it; with fewer than 48 orders in the book it is a
ticket no order has, and with the counter within 1..65535 it is within 1..65535 (R121). -/
def Obligations.TicketIsFresh : Prop :=
  ∀ b : OrderBook, b.orders.length < 48 →
    ((∀ o ∈ b.orders, o.ticket ≠ b.counter) → b.ticket = b.counter) ∧ (∀ o ∈ b.orders, o.ticket ≠ b.ticket) ∧
      (ticketRange b.counter → ticketRange b.ticket)

/-- The bin lookup gives the first BIN_RANGE item that contains the bin, and no source where none does (R19). -/
def Obligations.BinLookupTakesTheFirst : Prop :=
  ∀ (m : StopMap) (bin : Nat),
    (∀ b, m.binLookup bin = some b ↔
      ∃ e : Fin 8, tget m.bins e = some b ∧ b.first ≤ bin ∧ bin ≤ b.last ∧
        ∀ e' : Fin 8, e' < e → ∀ b', tget m.bins e' = some b' → ¬ (b'.first ≤ bin ∧ bin ≤ b'.last)) ∧
    (m.binLookup bin = none ↔ ∀ (e : Fin 8) b, tget m.bins e = some b → ¬ (b.first ≤ bin ∧ bin ≤ b.last))

/-- ENDORSE makes a HELD order QUEUED, with its restricted flag, its age and its place in the book kept; it is answered DONE, the
order is a dispatch opportunity, and a wake is handed to track control while the map is VALID. In any other state the order is left
and WRONG_STATE answered. The other links may not make it, and the checks of R126 come first (R124). -/
def Obligations.EndorseReleases : Prop :=
  ∀ (l : Link) (tag : Byte) (body : List Byte) (s : State), s.offers l .endorse tag body →
    (l ≠ .service → exec (.endorse l) s = .next (s.replied l .refused tag [1#8])) ∧
    (l = .service →
      (body.length ≠ 2 → exec (.endorse l) s = .next (s.replied l .refused tag [2#8])) ∧
      ∀ hi lo, body = [hi, lo] →
        (s.orderOf (hi.toNat * 256 + lo.toNat) = none → exec (.endorse l) s = .next (s.replied l .refused tag [6#8])) ∧
        ∀ o, s.orderOf (hi.toNat * 256 + lo.toNat) = some o →
          (o.state ≠ .held → exec (.endorse l) s = .next (s.replied l .refused tag [7#8])) ∧
          (o.state = .held →
            let queued : State := { (s.replied l .done tag []) with
              book := { s.book with orders := s.book.orders.map fun x =>
                if x.ticket = o.ticket then { x with state := .queued } else x }
              disp := { s.disp with opportunity := true } }
            exec (.endorse l) s = .next (if s.map.state = .valid then queued.wake.finish else queued.finish)))

/-- A wake starts a warm-up of an auto-parked PARK with the fault flag clear: auto-parked becomes no and the mode WARMUP, with no
completion pending that was not; in every other case it changes nothing (R162). -/
def Obligations.WakeStartsAWarmup : Prop :=
  ∀ s : State,
    (s.track.mode = .park ∧ s.track.autoParked = true ∧ s.track.faultFlag = false →
      s.wake.track.mode = .warmup ∧ s.wake.track.autoParked = false ∧ s.wake.track.completion = s.track.completion ∧
        s.wake.track.warmCount = 0 ∧ s.wake.track.warmW = s.map.params.warmup ∧ s.wake.line.latches.driveOn = true) ∧
    (¬ (s.track.mode = .park ∧ s.track.autoParked = true ∧ s.track.faultFlag = false) → s.wake = s)

/-- EXPEDITE makes a HELD or QUEUED order RUSH, and changes neither its age nor its place in the book; other orders are refused
WRONG_STATE, a RUSH one among them: that is the model's reading (log entry 12). On the counter link it acts on the orders placed
there alone (R125, R126). -/
def Obligations.ExpediteRaises : Prop :=
  ∀ (l : Link) (tag hi lo : Byte) (s : State) (o : Order), (l = .counter ∨ l = .service) →
    s.offers l .expedite tag [hi, lo] → s.orderOf (hi.toNat * 256 + lo.toNat) = some o →
    (l = .counter → o.origin = .service → exec (.expedite l) s = .next (s.replied l .refused tag [1#8])) ∧
    ((l = .counter → o.origin = .counter) →
      (o.state = .held ∨ o.state = .queued →
        exec (.expedite l) s = .next { (s.replied l .done tag []) with
          book := { s.book with orders := s.book.orders.map fun x =>
            if x.ticket = o.ticket then { x with cls := .rush } else x } }) ∧
      (¬ (o.state = .held ∨ o.state = .queued) → exec (.expedite l) s = .next (s.replied l .refused tag [7#8])))

/-- A carrier that becomes RETURNING has no order and load class 0, and is bound for the DEPOT whose junction is the least distance ahead:
from section k where it is in section k of the loop, a junction k counting S, and from the merge section m of the station it is diverting
to, in the queue of, docked at or launching from, a junction m counting 0; its go-around count becomes 0 where its destination changes,
and nothing else changes but its place among the candidates (R102 to R104, R143). CANCEL ends an order none of whose lines is LOADED: it
leaves the book, DONE is answered, a carrier it held becomes RETURNING and, docked at the stop, is launched, and the COMPLETION with
outcome CANCELLED goes to the order's origin link; then the calls of a first stop not done fall. An order with a load, or past its stops,
is refused TOO_LATE; on the counter link an order placed on the service link is refused NOT_PERMITTED (R126, R134, R136). -/
def Obligations.CancelEndsAnOrder : Prop :=
  (∀ (c : CarrierId) (s : State),
    let r := s.car c
    let d := s.chooseDepot r.place
    let candidate : Prop := (∃ k, r.place = .loop k) ∧ r.stalled = false ∧ r.suspect = false ∧ r.retirePending = false
    ∃ disp : Dispatcher,
      s.becomeReturning c = { s with
        cars := { s.cars with recs := tset s.cars.recs c { r with
          state := .returning, order := none, load := 0, dest := d, goArounds := if r.dest = d then r.goArounds else 0 } }
        disp := disp } ∧
      (c ∈ disp.candidates ↔ candidate) ∧ (∀ e, e ≠ c → (e ∈ disp.candidates ↔ e ∈ s.disp.candidates)) ∧
      (disp.opportunity = true ↔ s.disp.opportunity = true ∨ (candidate ∧ c ∉ s.disp.candidates))) ∧
  (∀ (p : Place) (s : State),
    (∀ i, s.chooseDepot p = some i → (s.stn i).kind = some .depot ∧
      ∀ j, (s.stn j).kind = some .depot → s.distanceTo p i ≤ s.distanceTo p j) ∧
    (s.chooseDepot p = none → ∀ i, (s.stn i).kind ≠ some .depot) ∧
    (∀ k i, p = .loop k → s.distanceTo p i =
      if (s.stn i).junction = k then s.S else ((s.stn i).junction.val + s.S - k.val) % s.S) ∧
    (∀ d i, (p = .diverting d ∨ (∃ n, p = .queue d n) ∨ p = .docked d ∨ p = .launching d) → s.distanceTo p i =
      if (s.stn i).junction = s.mergeSec d then 0 else ((s.stn i).junction.val + s.S - (s.mergeSec d).val) % s.S)) ∧
  ∀ (l : Link) (tag hi lo : Byte) (s : State) (o : Order), (l = .counter ∨ l = .service) →
    s.offers l .cancel tag [hi, lo] → s.orderOf (hi.toNat * 256 + lo.toNat) = some o →
    let gone : State := { (s.replied l .done tag []) with
      book := { s.book with orders := s.book.orders.filter fun x => x.ticket ≠ o.ticket } }
    let completed : State → State := fun t => t.notice o.origin.link .completion o.originTag
      ([0x01#8, 2#8] ++ byte2 o.ticket ++ [packByte (o.lines.map fun x => x.status == .short)])
    (l = .counter → o.origin = .service → exec (.cancel l) s = .next (s.replied l .refused tag [1#8])) ∧
    ((l = .counter → o.origin = .counter) →
      (o.state = .held ∨ o.state = .queued → exec (.cancel l) s = .next (completed gone).finish) ∧
      (o.state = .toCounter ∨ o.state = .atCounter ∨ (∃ x ∈ o.lines, x.status = .loaded) ∧
          (o.state = .assigned ∨ o.state = .atStock) →
        exec (.cancel l) s = .next (s.replied l .refused tag [8#8])) ∧
      (∀ c, o.carrier = some c → (∀ x ∈ o.lines, x.status ≠ .loaded) →
        (o.state = .assigned → exec (.cancel l) s = .next ((completed (gone.becomeReturning c)).dropFirstCall o).finish) ∧
        (o.state = .atStock → ∀ i, (s.car c).place = .docked i →
          exec (.cancel l) s =
            .next ((completed ((gone.becomeReturning c).requestLaunch i c)).dropFirstCall o).finish)))

/-- TAKEN ends an order AT_COUNTER: it leaves the book, DONE is answered, its carrier becomes RETURNING and is launched from the
counter dock, and the COMPLETION carries DELIVERED and the mask of the SHORT lines. An order in any other state is refused
WRONG_STATE (R133, R136). -/
def Obligations.TakenDelivers : Prop :=
  ∀ (l : Link) (tag hi lo : Byte) (s : State) (o : Order), (l = .counter ∨ l = .service) →
    s.offers l .taken tag [hi, lo] → s.orderOf (hi.toNat * 256 + lo.toNat) = some o →
    (l = .counter → o.origin = .service → exec (.taken l) s = .next (s.replied l .refused tag [1#8])) ∧
    ((l = .counter → o.origin = .counter) →
      (o.state ≠ .atCounter → exec (.taken l) s = .next (s.replied l .refused tag [7#8])) ∧
      (o.state = .atCounter → ∀ c i, o.carrier = some c → (s.car c).place = .docked i →
        let gone : State := { (s.replied l .done tag []) with
          book := { s.book with orders := s.book.orders.filter fun x => x.ticket ≠ o.ticket } }
        exec (.taken l) s =
          .next (((gone.becomeReturning c).requestLaunch i c).notice o.origin.link .completion o.originTag
            ([0x01#8, 1#8] ++ byte2 o.ticket ++ [packByte (o.lines.map fun x => x.status == .short)])).finish))

/-- LOADED at the order's current stop makes every PENDING line there LOADED, raises the carrier's load class to the one reported, at
most 3, and completes the stop; SHORT makes the named PENDING lines there SHORT and completes the stop where none is left PENDING.
Elsewhere both are refused: TOO_LATE for a stop already done, WRONG_STATE otherwise (R129, R130, R104). When a stop is done: with a
further stop the order is ASSIGNED for it and its carrier CALLED there; with none and a load, TO_COUNTER and DELIVERING to its
counter; with none and no load it leaves the book SHORTED and the carrier is RETURNING. The answer goes first, then the carrier's
launch from the stop is requested, and the calls of a first stop fall (R131, R136). -/
def Obligations.LoadedAndShort : Prop :=
  (∀ (l : Link) (tag hi lo st x : Byte) (s : State) (o : Order) (i : StationId), (l = .stock ∨ l = .service) →
    s.orderOf (hi.toNat * 256 + lo.toNat) = some o → st.toNat = i.val + 1 →
    (o.state = .atStock → o.stops[o.nextStop]? = some i → ∀ c, o.carrier = some c →
      (s.offers l .loaded tag [hi, lo, st, x] →
        let o' : Order := { o with lines := o.lines.map fun y =>
          if y.station = i ∧ y.status = .pending then { y with status := .loaded } else y }
        let loaded : State := ((s.take l).modOrder o.ticket fun _ => o').modCar c fun r => { r with load := max r.load (min x.toNat 3) }
        exec (.loaded l) s = .next (loaded.stopDone ⟨l, tag, [hi, lo, st, x]⟩ o' c i).finish) ∧
      (s.offers l .short tag [hi, lo, st, x] → x.toNat < 16 → ∀ o' : Order,
        o' = { o with lines := o.lines.zipIdx.map fun y =>
          if y.1.station = i ∧ y.1.status = .pending ∧ x.getLsbD y.2 = true then { y.1 with status := .short } else y.1 } →
        ((∃ y ∈ o'.lines, y.station = i ∧ y.status = .pending) →
          exec (.short l) s = .next ((s.replied l .done tag []).modOrder o.ticket fun _ => o').finish) ∧
        ((∀ y ∈ o'.lines, ¬ (y.station = i ∧ y.status = .pending)) →
          exec (.short l) s =
            .next (((s.take l).modOrder o.ticket fun _ => o').stopDone ⟨l, tag, [hi, lo, st, x]⟩ o' c i).finish))) ∧
    (¬ (o.state = .atStock ∧ o.stops[o.nextStop]? = some i) →
      let answer : List Byte := if i ∈ o.stops.take o.nextStop then [8#8] else [7#8]
      (s.offers l .loaded tag [hi, lo, st, x] → exec (.loaded l) s = .next (s.replied l .refused tag answer)) ∧
      (s.offers l .short tag [hi, lo, st, x] → x.toNat < 16 → exec (.short l) s = .next (s.replied l .refused tag answer)))) ∧
  ∀ (s : State) (r : Req) (o : Order) (c : CarrierId) (i : StationId),
    (∀ next, o.stops[o.nextStop + 1]? = some next →
      s.stopDone r o c i =
        ((((s.modOrder o.ticket fun x => { x with nextStop := o.nextStop + 1, state := .assigned }).done r []).modCar c fun x =>
          { (x.setDest (some next)) with state := .called }).requestLaunch i c).dropFirstCall o) ∧
    (o.stops[o.nextStop + 1]? = none → (∃ x ∈ o.lines, x.status = .loaded) →
      s.stopDone r o c i =
        ((((s.modOrder o.ticket fun x => { x with nextStop := o.nextStop + 1, state := .toCounter }).done r []).modCar c fun x =>
          { (x.setDest (some o.counter)) with state := .delivering }).requestLaunch i c).dropFirstCall o) ∧
    (o.stops[o.nextStop + 1]? = none → (∀ x ∈ o.lines, x.status ≠ .loaded) →
      s.stopDone r o c i =
        ((((((s.removeOrder o.ticket).done r []).becomeReturning c).requestLaunch i c).notice o.origin.link .completion o.originTag
          ([0x01#8, 3#8] ++ byte2 o.ticket ++ [packByte (o.lines.map fun x => x.status == .short)])).dropFirstCall o))

/-- QUERY gives an order's record in two parts on every link, each field in its place and code, and changes nothing; a part number above 1 is
refused BAD_VALUE, a ticket in no record NO_SUCH_ORDER (R126, R139). -/
def Obligations.QueryReadsAnOrder : Prop :=
  ∀ (l : Link) (tag hi lo part : Byte) (s : State), s.offers l .query tag [hi, lo, part] →
    let origin : Order → Byte := fun o => match o.origin with
      | .counter => 0#8
      | .service => 1#8
    let cls : Order → Byte := fun o => match o.cls with
      | .rush => 0#8
      | .standard => 1#8
      | .bulk => 2#8
    let state : Order → Byte := fun o => match o.state with
      | .held => 0#8
      | .queued => 1#8
      | .assigned => 2#8
      | .atStock => 3#8
      | .toCounter => 4#8
      | .atCounter => 5#8
    let status : Line → Nat := fun x => match x.status with
      | .pending => 0
      | .loaded => 1
      | .short => 2
    (2 ≤ part.toNat → exec (.query l) s = .next (s.replied l .refused tag [3#8])) ∧
    (part.toNat < 2 → s.orderOf (hi.toNat * 256 + lo.toNat) = none →
      exec (.query l) s = .next (s.replied l .refused tag [6#8])) ∧
    ∀ o, s.orderOf (hi.toNat * 256 + lo.toNat) = some o →
      (part = 0#8 → exec (.query l) s = .next (s.replied l .done tag
        (byte2 o.ticket ++
          [0#8, origin o, o.originTag, BitVec.ofNat 8 o.window, BitVec.ofNat 8 (o.counter.val + 1),
            cls o, state o, if o.restricted then 1#8 else 0#8,
            match o.carrier with
            | some c => BitVec.ofNat 8 c.val
            | none => 0xFF#8] ++
          byte2 o.age ++ [BitVec.ofNat 8 o.nextStop, BitVec.ofNat 8 o.stops.length] ++
          (List.range 4).map fun n =>
            match o.stops[n]? with
            | some i => BitVec.ofNat 8 (i.val + 1)
            | none => 0#8))) ∧
      (part = 1#8 → exec (.query l) s = .next (s.replied l .done tag
        (byte2 o.ticket ++ [1#8, BitVec.ofNat 8 o.lines.length] ++
          o.lines.flatMap fun x => byte2 x.bin ++
            [BitVec.ofNat 8 x.qty,
              BitVec.ofNat 8 (x.station.val + 1 + 16 * status x + (if x.restricted then 64 else 0))])))

/-- CLOSE_STATION sets and OPEN_STATION clears the closed flag of a station that is STOCK in the map as it stands, with DONE; clearing
it is a dispatch opportunity. Another station, or a number outside 1..12, is refused BAD_VALUE (R96). -/
def Obligations.StationsCloseAndOpen : Prop :=
  ∀ (l : Link) (tag b : Byte) (s : State), (l = .stock ∨ l = .service) →
    (∀ i : StationId, b.toNat = i.val + 1 → s.map.kindOf i = some .stock →
      let flagged : Bool → State := fun x => { (s.replied l .done tag []) with
        stations := tset s.stations i { (s.stn i) with closed := x } }
      (s.offers l .closeStation tag [b] → exec (.closeStation l) s = .next (flagged true)) ∧
      (s.offers l .openStation tag [b] →
        ((s.stn i).closed = true → exec (.openStation l) s =
          .next ({ (flagged false) with disp := { s.disp with opportunity := true } }).finish) ∧
        ((s.stn i).closed = false → exec (.openStation l) s = .next (s.replied l .done tag [])))) ∧
    ((∀ i : StationId, b.toNat = i.val + 1 → s.map.kindOf i ≠ some .stock) →
      (s.offers l .closeStation tag [b] → exec (.closeStation l) s = .next (s.replied l .refused tag [3#8])) ∧
      (s.offers l .openStation tag [b] → exec (.openStation l) s = .next (s.replied l .refused tag [3#8])))

/-! ## The track -/

/-- SET_MODE stores both selectors in every mode; a track in RUN or SLOW changes to the new speed (R156). That DONE precedes the MODE
notice is the model's choice (log entry 6).
A change of mode, by this and by any other command: to the mode the track is in it changes nothing; otherwise DRIVE_ON is active outside
PARK, the step generator runs or stands as R37 gives, keeping an interval in progress (R38), the drive rules are applied to every
section and every station, MODE carries the new mode, the mode before it, auto-parked and the fault flag, RUN and SLOW are a dispatch
opportunity, and PARK ends a running jog (R155). The jog's COMPLETION tells ABORTED and the steps delivered (R114); that it follows MODE
is the model's choice (log entry 6), and that it tells DONE where the last step was delivered is so too, JOG_COMPLETE being a command of
its own (log entry 2). The autopark countdown follows the event (WhatFollowsAnEventKeeps). -/
def Obligations.SetModeStores : Prop :=
  (∀ (tag a b : Byte) (s : State), s.offers .service .setMode tag [a, b] →
    (∀ v w, a.toNat = Speed.code v → b.toNat = Settle.code w →
      let stored : State := { (s.replied .service .done tag []) with track := { s.track with speed := v, settle := w } }
      (s.track.mode = .run ∨ s.track.mode = .slow → exec (.setMode .service) s = .next (stored.changeMode v.mode).finish) ∧
      (¬ (s.track.mode = .run ∨ s.track.mode = .slow) → exec (.setMode .service) s = .next stored.finish)) ∧
    (2 ≤ a.toNat ∨ 2 ≤ b.toNat → exec (.setMode .service) s = .next (s.replied .service .refused tag [3#8]))) ∧
  ∀ (m : Mode) (s : State),
    let code : Mode → Byte := fun x => match x with
      | .park => 0#8
      | .warmup => 1#8
      | .run => 2#8
      | .slow => 3#8
      | .hold => 4#8
      | .survey => 5#8
    let flag : Bool → Byte := fun b => if b then 1#8 else 0#8
    let moved : State := { s with track := { s.track with mode := m } }
    let changed : State := { moved with
      line := { s.line with latches := { s.line.latches with
        driveOn := decide (m ≠ .park)
        d := Vector.ofFn fun k => tget (moved.applyDrive k).line.latches.d k
        q := Vector.ofFn fun i => tget (moved.applySpur i).line.latches.q i } }
      gen := if moved.divisor = none then ⟨none⟩ else if s.gen.interval = none then ⟨moved.divisor⟩ else s.gen
      disp := { s.disp with opportunity := s.disp.opportunity || decide (m = .run ∨ m = .slow) }
      links := s.links.set .service ((s.link .service).notice ⟨.notice .mode, 0#8,
        [code m, code s.track.mode, flag s.track.autoParked, flag s.track.faultFlag]⟩) }
    (s.track.mode = m → s.changeMode m = s) ∧
    (s.track.mode ≠ m →
      (m ≠ .park ∨ s.cars.jog = none → s.changeMode m = changed) ∧
      (m = .park → ∀ j, s.cars.jog = some j → s.changeMode m = { changed with
        cars := { s.cars with jog := none }
        links := changed.links.set .service ((changed.link .service).notice ⟨.notice .completion, j.tag,
          [0x1B#8, if j.remaining = 0 then 0#8 else 5#8, BitVec.ofNat 8 j.delivered]⟩) }))

/-- SETTLE brings a sound track to the settle selector's mode, or leaves it in PARK; auto-parked becomes no; no RESUME and no survey stays
pending; and the first message on the service link is DONE (R157). A MODE notice follows where the mode changes; a pending RESUME's
COMPLETION is ABORTED, and a survey's is ABORTED with the carriers tracked, UNKNOWN and provisional (R157, R174): after MODE in a
warm-up, before it in SURVEY, as R157 names them. A jog that the change into PARK ends is ABORTED after MODE, or DONE where its last step
had already been delivered (R114). `u` is the state before what follows an event. R157 puts DONE before a COMPLETION alone; that it goes
before the MODE notice too, and a jog's COMPLETION after MODE, is the model's choice (log entry 6), and so is that a jog can stand with
its last step delivered (log entry 2). -/
def Obligations.SettleRests : Prop :=
  ∀ (tag : Byte) (s : State), s.offers .service .settle tag [] → s.trackSound →
    ∃ u : State, exec (.settle .service) s = .next u.finish ∧
      let mode : Mode := if s.track.mode = .park then .park else s.track.settle.mode
      let code : Mode → Byte := fun x => match x with
        | .park => 0#8
        | .warmup => 1#8
        | .run => 2#8
        | .slow => 3#8
        | .hold => 4#8
        | .survey => 5#8
      u.finish.track.mode = mode ∧ u.finish.track.autoParked = false ∧ u.finish.track.completion = .none ∧
      u.finish.track.survey = none ∧ u.finish.line.latches.driveOn = mode.driveOn ∧
      u.finish.track.faultFlag = s.track.faultFlag ∧ u.finish.map = s.map ∧
      (u.finish.link .service).tx[(s.link .service).tx.length]? = some ⟨.answer .done, tag, []⟩ ∧
      let changed : List TxMsg :=
        if s.track.mode = mode then [] else
          [⟨.notice .mode, 0#8, [code mode, code s.track.mode, 0#8, if s.track.faultFlag then 1#8 else 0#8]⟩]
      let jogged : List TxMsg := match s.cars.jog with
        | some j =>
          if s.track.mode ≠ .park ∧ mode = .park then
            [⟨.notice .completion, j.tag, [0x1B#8, if j.remaining = 0 then 0#8 else 5#8, BitVec.ofNat 8 j.delivered]⟩]
          else []
        | none => []
      let completed : List TxMsg := match s.track.completion, s.track.survey with
        | .resume tg, _ => [⟨.notice .completion, tg, [0x12#8, 5#8]⟩]
        | .survey tg, some v => [⟨.notice .completion, tg,
            [0x14#8, 5#8, BitVec.ofNat 8 v.tracked.length,
              BitVec.ofNat 8 ((List.finRange 16).countP fun d => (s.car d).state == CarState.unknown),
              BitVec.ofNat 8 v.provisional.length]⟩]
        | _, _ => []
      u.links = (s.replied .service .done tag []).links.set .service
        ((if s.track.mode = .survey then completed ++ changed ++ jogged else changed ++ jogged ++ completed).foldl
          LinkUnit.notice ((s.replied .service .done tag []).link .service))

/-- RESUME sets the track running: from HOLD in the speed selector's mode with DONE, from PARK by a warm-up with DEFERRED and its
COMPLETION pending; in RUN and SLOW it changes nothing. It is refused or answered BUSY by the first test it fails (R158). That the
answer precedes the MODE notice is the model's choice (log entry 6). -/
def Obligations.ResumeStarts : Prop :=
  ∀ (tag : Byte) (s : State), s.offers .service .resume tag [] →
    (s.map.state = .edit → exec (.resume .service) s = .next (s.replied .service .busy tag [3#8])) ∧
    (s.map.state = .invalid → exec (.resume .service) s = .next (s.replied .service .busy tag [2#8])) ∧
    (s.map.state = .valid → s.track.faultFlag = true →
      exec (.resume .service) s = .next (s.replied .service .refused tag [9#8])) ∧
    (s.map.state = .valid → s.track.faultFlag = false →
      (s.track.mode = .warmup → exec (.resume .service) s = .next (s.replied .service .busy tag [5#8])) ∧
      (s.track.mode = .survey → exec (.resume .service) s = .next (s.replied .service .busy tag [4#8])) ∧
      (s.track.mode = .run ∨ s.track.mode = .slow → exec (.resume .service) s = .next (s.replied .service .done tag [])) ∧
      (s.track.mode = .hold → exec (.resume .service) s =
        .next ((s.replied .service .done tag []).changeMode s.track.speed.mode).finish) ∧
      (s.track.mode = .park → exec (.resume .service) s =
        .next (({ (s.replied .service .deferred tag []) with
          track := { s.track with
            autoParked := false, completion := .resume tag, warmCount := 0, warmW := s.map.params.warmup } }).changeMode
              .warmup).finish))

/-- RECOVER clears the fault flag, the first-fault record and the later-fault count, and CLEAR_CAUSE the three cause flags, in every map
state and mode; nothing else changes. With a body each is refused BAD_FORMAT (R165, R166). -/
def Obligations.RecoverAndClearCause : Prop :=
  ∀ (tag : Byte) (s : State),
    (s.offers .service .recover tag [] → exec (.recover .service) s =
      .next { (s.replied .service .done tag []) with
        track := { s.track with faultFlag := false, firstFault := none, laterFaults := 0 } }) ∧
    (s.offers .service .clearCause tag [] → exec (.clearCause .service) s =
      .next { (s.replied .service .done tag []) with
        track := { s.track with causePower := false, causePin := false, causeService := false } }) ∧
    (∀ b body, s.offers .service .recover tag (b :: body) →
      exec (.recover .service) s = .next (s.replied .service .refused tag [2#8])) ∧
    (∀ b body, s.offers .service .clearCause tag (b :: body) →
      exec (.clearCause .service) s = .next (s.replied .service .refused tag [2#8]))

/-- A SURVEY accepted in HOLD or PARK: every order that holds a carrier leaves the book, the oldest first, and COMPLETION FAILED of each goes
to its origin link, on the service link after DEFERRED; the other orders stay, with their ages and places. A carrier in service that is
not kept in a depot spur becomes UNKNOWN, with its misreads, suspect and retire-pending flags alone; a kept one, resting in a depot's
queue or docked there with no launch granted, keeps its place in the queue left by the others and is IDLE, or REMOVING where it was or
where it was CALLED or RETURNING, retire-pending and docked; its stall ends and its passage is clear but for a move-up begun. UNKNOWN and
OUT carriers stay, the stalled count is 0 and no jog runs. Every section of the loop is FREE and the population 0; every station keeps
what the map gives it, its closed flag and, at a depot, its kept carriers, and nothing else; auto-parked is no. From PARK the mode is
WARMUP with the survey pending under the request's tag. From HOLD the mode is SURVEY with the survey pending, unless more entry sensors
are active than there are UNKNOWN carriers: then the sweep fails as it begins, SURVEY_FAIL is raised, the mode is HOLD and the survey is
gone (R168, R169, R74, R95, R116, R137, R164, R174). That this limit, which R169 gives beside the LEADs of the sweep, holds for the
sensors active as it begins too, and that the survey's end leaves the sensors after the failing one untaken, is the model's reading (log
entry 9). Otherwise SURVEY is answered by the first test it fails, with nothing changed: a body is BAD_FORMAT, a map in EDIT BUSY
MAP_EDIT and an INVALID one BUSY NOT_READY, the fault flag FAULTED, and a mode other than HOLD and PARK BUSY MODE (R168). -/
def Obligations.SurveyAccepted : Prop :=
  (∀ (tag : Byte) (body : List Byte) (s : State), s.offers .service .survey tag body →
    (body ≠ [] → exec (.survey .service) s = .next (s.replied .service .refused tag [2#8])) ∧
    (body = [] →
      (s.map.state = .edit → exec (.survey .service) s = .next (s.replied .service .busy tag [3#8])) ∧
      (s.map.state = .invalid → exec (.survey .service) s = .next (s.replied .service .busy tag [2#8])) ∧
      (s.map.state = .valid → s.track.faultFlag = true →
        exec (.survey .service) s = .next (s.replied .service .refused tag [9#8])) ∧
      (s.map.state = .valid → s.track.faultFlag = false → s.track.mode ≠ .hold → s.track.mode ≠ .park →
        exec (.survey .service) s = .next (s.replied .service .busy tag [4#8])))) ∧
  ∀ (tag : Byte) (s : State), s.offers .service .survey tag [] → s.map.state = .valid → s.track.faultFlag = false →
    (s.track.mode = .hold ∨ s.track.mode = .park) →
    let unknown := (List.finRange 16).countP fun c => (s.car c).state == .unknown || ((s.car c).inService && !s.kept c)
    let active := (List.finRange 32).countP fun k => decide (k.val < s.S) && s.active (.entry k)
    ∃ t, exec (.survey .service) s = .next t ∧
      (∀ o ∈ t.book.orders, o.carrier = none) ∧
      (s.book.sound → t.book = { s.book with orders := s.book.orders.filter fun o => o.carrier.isNone }) ∧
      (∀ c, (s.car c).inService = true → s.kept c = false → t.car c = { CarrierRec.reset with
        misreads := (s.car c).misreads, suspect := (s.car c).suspect, retirePending := (s.car c).retirePending }) ∧
      (∀ c, (s.car c).inService = false → t.car c = s.car c) ∧
      (∀ c, s.kept c = true ↔
        ((s.car c).state = .idle ∨ (s.car c).state = .removing ∨ (s.car c).state = .called ∨ (s.car c).state = .returning) ∧
        ∃ i, (s.stn i).kind = some .depot ∧ c ∈ (s.stn i).queue ∧
          ¬ ((s.stn i).launchPending = some c ∧ (s.stn i).launchGranted = true)) ∧
      (∀ c, s.kept c = true →
        (t.car c).state = (if (s.car c).state = .removing ∨ ((s.car c).state ≠ .idle ∧ (s.car c).retirePending = true ∧
          ∃ i, (s.car c).place = .docked i) then .removing else .idle) ∧
        (t.car c).order = none ∧ (t.car c).dest = none ∧ (t.car c).load = 0 ∧ (t.car c).stall = ⟨none, false⟩ ∧
        (t.car c).misreads = (s.car c).misreads ∧ (t.car c).suspect = (s.car c).suspect ∧
        (t.car c).retirePending = (s.car c).retirePending ∧
        (∀ i, (s.car c).place = .docked i → (t.car c).place = .docked i) ∧
        (∀ i n, (s.car c).place = .queue i n → (∀ j, c ∈ (s.stn j).queue → (s.stn j).kind = some .depot → j = i) →
          ∃ m, (t.car c).place = .queue i m ∧ (t.stn i).queue[m]? = some c) ∧
        ((∀ i, (t.stn i).movingUp ≠ some c) → (t.car c).passage = Passage.clear)) ∧
      t.cars.stalledCount = 0 ∧ t.cars.jog = none ∧
      (∀ i, tget t.line.latches.v i = false ∧ tget t.line.latches.g i = false ∧
        let queue := if (s.stn i).kind = some .depot then (s.stn i).queue.filter s.kept else []
        let dock : Dock := match (s.stn i).dock with
          | .docked c => if (s.stn i).kind = some .depot ∧ s.kept c = true then .docked c else .empty
          | _ => .empty
        t.stn i = { (s.stn i) with
          queue := queue, inbound := 0, entryPending := none, dock := dock
          movingUp := if dock = .empty then queue.head? else none
          launchPending := none, launchGranted := false, heldLaunch := none, awaitedDock := .none, calls := 0 }) ∧
      (let ended : Link → List TxMsg := fun l =>
         (s.book.orders.filter fun o => o.carrier.isSome && o.origin.link == l).map fun o => ⟨.notice .completion, o.originTag,
           [0x01#8, 4#8] ++ byte2 o.ticket ++ [packByte (o.lines.map fun x => x.status == .short)]⟩
       t.link .stock = (ended .stock).foldl LinkUnit.notice (s.link .stock) ∧
       t.link .counter = (ended .counter).foldl LinkUnit.notice (s.link .counter) ∧
       ∃ rest, t.link .service =
         (ended .service ++ rest).foldl LinkUnit.notice ((s.link .service).replied .deferred tag [])) ∧
      (∀ k : SectionId, k.val < s.S → t.sec k = SectionRec.reset) ∧ t.secs.population = 0 ∧ t.secs.admission = [] ∧
      t.track.autoParked = false ∧
      (t.link .service).tx[(s.link .service).tx.length]? = some ⟨.answer .deferred, tag, []⟩ ∧
      (s.track.mode = .park ∨ active ≤ unknown →
        t.track.survey.isSome = true ∧ t.track.completion = .survey tag ∧
          t.track.mode = (if s.track.mode = .hold then .survey else .warmup)) ∧
      (s.track.mode = .hold → unknown < active →
        t.track.survey = none ∧ t.track.completion = .none ∧ t.track.mode = .hold ∧ t.track.faultFlag = true)

/-! ## Carriers -/

/-- ADMIT of an UNKNOWN or OUT carrier into a depot with room, in a VALID map and any mode but SURVEY: the carrier is IDLE with a fresh
record at the tail of the depot's queue; it docks at once, without a read, where it is the first of the queue and the dock sensor is
active, and begins its move-up there where the sensor is inactive; DONE is answered (R110, R94). Otherwise ADMIT is answered by the first
of the tests of R110 that it fails, with nothing changed: the body's length, the carrier and station numbers, a VALID map, a mode other
than SURVEY, a DEPOT, an UNKNOWN or OUT carrier, and room. -/
def Obligations.AdmitJoinsTheQueue : Prop :=
  (∀ (tag : Byte) (body : List Byte) (s : State), s.offers .service .admitCarrier tag body →
    let refused : Byte → Prop := fun x => exec (.admitCarrier .service) s = .next (s.replied .service .refused tag [x])
    let busy : Byte → Prop := fun x => exec (.admitCarrier .service) s = .next (s.replied .service .busy tag [x])
    (body.length ≠ 2 → refused 2#8) ∧
    ∀ b d, body = [b, d] →
      (16 ≤ b.toNat ∨ d.toNat = 0 ∨ 13 ≤ d.toNat → refused 3#8) ∧
      ∀ (c : CarrierId) (i : StationId), b.toNat = c.val → d.toNat = i.val + 1 →
        (s.map.state = .edit → busy 3#8) ∧ (s.map.state = .invalid → busy 2#8) ∧
        (s.map.state = .valid →
          (s.track.mode = .survey → busy 4#8) ∧
          (s.track.mode ≠ .survey →
            ((s.stn i).kind ≠ some .depot → refused 3#8) ∧
            ((s.stn i).kind = some .depot →
              ((s.car c).state ≠ .unknown → (s.car c).state ≠ .out → refused 7#8) ∧
              ((s.car c).state = .unknown ∨ (s.car c).state = .out →
                (s.stn i).capacity ≤ (s.stn i).queue.length + (s.stn i).inbound → busy 1#8))))) ∧
  ∀ (tag b d : Byte) (s : State) (c : CarrierId) (i : StationId), s.offers .service .admitCarrier tag [b, d] →
    b.toNat = c.val → d.toNat = i.val + 1 → s.map.state = .valid → s.track.mode ≠ .survey → (s.stn i).kind = some .depot →
    ((s.car c).state = .unknown ∨ (s.car c).state = .out) → (s.stn i).queue.length + (s.stn i).inbound < (s.stn i).capacity →
    ∃ t : State, exec (.admitCarrier .service) s = .next (t.done ⟨.service, tag, [b, d]⟩ []).finish ∧
      t.links = (s.take .service).links ∧ (t.stn i).queue = (s.stn i).queue ++ [c] ∧
      (t.car c).state = .idle ∧ (t.car c).order = none ∧ (t.car c).dest = none ∧ (t.car c).load = 0 ∧
      (t.car c).goArounds = 0 ∧ (t.car c).misreads = 0 ∧ (t.car c).suspect = false ∧ (t.car c).retirePending = false ∧
      (∀ c', c' ≠ c → t.car c' = s.car c') ∧
      ((s.stn i).dock = .empty → (s.stn i).movingUp = none → (s.stn i).firstWaiting = none → (s.stn i).launchPending ≠ some c →
        (s.active (.dock i) = true → (t.stn i).dock = .docked c ∧ (t.car c).place = .docked i) ∧
        (s.active (.dock i) = false → (t.stn i).movingUp = some c ∧ (t.car c).passage.stretch = .dock i)) ∧
      t.book = s.book ∧ t.track = s.track ∧ t.secs = s.secs ∧ t.map = s.map

/-- RETIRE makes an UNKNOWN carrier OUT and an IDLE carrier at a dock REMOVING, and sets retire-pending on any other carrier at work,
where setting it again changes nothing of the carrier; it changes nothing of a REMOVING carrier or of an IDLE carrier at a dock that is
already retire-pending; an OUT carrier is refused WRONG_STATE, and in EDIT every carrier in service is BUSY MAP_EDIT (R111, R13). -/
def Obligations.RetireTakesOffTheRail : Prop :=
  ∀ (tag b : Byte) (s : State) (c : CarrierId), s.offers .service .retire tag [b] → b.toNat = c.val →
    ((s.car c).state = .out → exec (.retire .service) s = .next (s.replied .service .refused tag [7#8])) ∧
    (s.map.state = .edit → (s.car c).state ≠ .out → (s.car c).state ≠ .unknown →
      exec (.retire .service) s = .next (s.replied .service .busy tag [3#8])) ∧
    ((s.car c).state = .unknown → exec (.retire .service) s = .next ((s.replied .service .done tag []).becomeOut c).finish ∧
      (s.becomeOut c).car c = { CarrierRec.reset with
        state := .out, misreads := (s.car c).misreads, suspect := (s.car c).suspect }) ∧
    (s.map.state ≠ .edit →
      (∀ i, (s.car c).state = .idle → (s.car c).place = .docked i →
        ((s.car c).retirePending = false →
          exec (.retire .service) s = .next ((s.replied .service .done tag []).modCar c fun r =>
            { (r.setDest none) with state := .removing, order := none, load := 0 }).finish) ∧
        ((s.car c).retirePending = true →
          exec (.retire .service) s = .next (s.replied .service .done tag []).finish)) ∧
      ((s.car c).inService = true → (s.car c).state ≠ .removing →
        ¬ ((s.car c).state = .idle ∧ ∃ i, (s.car c).place = .docked i) →
          exec (.retire .service) s =
            .next ((s.replied .service .done tag []).modCar c fun r => { r with retirePending := true }).finish) ∧
      ((s.car c).state = .removing → exec (.retire .service) s = .next (s.replied .service .done tag []).finish))

/-- CLEAR_CARRIER of a carrier that is not OUT sets its misreads to 0 and clears its suspect flag; a stalled carrier's stall ends, with the
running stretch of a FRONT, LAUNCH or DOCK stall restarted at n = 0, its budget B and its stop point anew from its full length, and the
watch of a TAIL stall restarted at t = 0 on its sensor with its T anew, by the slack, the load margin, the guard, the carrier length and
the load class in force; what did not stall keeps its counts. The stalled count falls by 1, and the drive rules are applied to the
section the carrier holds OCCUPIED and at the station in whose queue it is or to which it is diverting, and no other latch changes. DONE
is answered and the mode and the faults stay (R112, R50). An OUT carrier is refused WRONG_STATE. -/
def Obligations.ClearCarrierRestarts : Prop :=
  ∀ (tag b : Byte) (s : State) (c : CarrierId), s.offers .service .clearCarrier tag [b] → b.toNat = c.val →
    ((s.car c).state = .out → exec (.clearCarrier .service) s = .next (s.replied .service .refused tag [7#8])) ∧
    ((s.car c).state ≠ .out →
      ∃ t : State, exec (.clearCarrier .service) s = .next (t.done ⟨.service, tag, [b]⟩ []).finish ∧
        t.links = (s.take .service).links ∧ (t.car c).misreads = 0 ∧ (t.car c).suspect = false ∧
        (t.car c).stall = ⟨none, false⟩ ∧
        (t.car c).state = (s.car c).state ∧ (t.car c).place = (s.car c).place ∧ (t.car c).order = (s.car c).order ∧
        t.cars.stalledCount = (if (s.car c).stalled then s.cars.stalledCount - 1 else s.cars.stalledCount) ∧
        let p := (s.car c).passage
        let q := (t.car c).passage
        let budget : Nat → Nat := fun len =>
          min 4095 ((len * (100 + s.map.params.slack + s.map.params.loadMargin * (s.car c).load) + 99) / 100)
        q.stretch = p.stretch ∧ q.watch = p.watch ∧
        ((s.car c).stall.stretch.isSome = true → q.n = 0 ∧ q.overrun = false ∧
          (∀ k, p.stretch = .loop k → q.budget = budget (s.map.sectionLen k) ∧
            q.stopPoint = some (s.map.sectionLen k - s.map.params.guard)) ∧
          (∀ i x, p.stretch = .divert i → tget s.map.stations i = some x → q.budget = budget (s.map.sectionLen x.junction) ∧
            q.stopPoint = some (s.map.sectionLen x.junction - s.map.params.guard)) ∧
          (∀ i, p.stretch = .launch i → q.budget = budget (s.map.exitLen i) ∧ q.stopPoint = none) ∧
          (∀ i, p.stretch = .dock i → q.budget = budget (s.map.approach i) ∧ q.stopPoint = none)) ∧
        ((s.car c).stall.stretch = none →
          q.n = p.n ∧ q.budget = p.budget ∧ q.stopPoint = p.stopPoint ∧ q.overrun = p.overrun) ∧
        ((s.car c).stall.tail = true → p.watch.isSome = true →
          q.t = 0 ∧ q.tailOverrun = false ∧ q.trailBudget = budget s.map.params.carrierLen) ∧
        ((s.car c).stall.tail = false → q.t = p.t ∧ q.trailBudget = p.trailBudget ∧ q.tailOverrun = p.tailOverrun) ∧
        ((s.car c).stalled = false → t.line = s.line) ∧
        ((s.car c).stalled = true →
          t.line = { s.line with latches := { s.line.latches with d := t.line.latches.d, q := t.line.latches.q } } ∧
          (∀ k, tget t.line.latches.d k =
            if s.occupiedBy c = some k then t.driveEnabled k else tget s.line.latches.d k) ∧
          ∀ i, tget t.line.latches.q i =
            if s.spurOf c = some i then t.spurEnabled i else tget s.line.latches.q i) ∧
        (∀ c', c' ≠ c → t.car c' = s.car c') ∧ t.track = s.track ∧ t.book = s.book ∧ t.secs = s.secs ∧
        t.stations = s.stations ∧ t.map = s.map)

/-- JOG of a section below S that is FREE or whose holder is stalled, or of the spur of a station 1..12 whose kind is not NONE, for 1 to 255
steps, in a VALID map outside PARK and SURVEY with no jog running: the jog runs with the request's tag, the generator runs, and DEFERRED
is answered (R113, R37). Otherwise the tests in their order answer it with no change: a body that is not 3 bytes, a target kind other
than 1 and 2, a map that is not VALID, a number that names no target or a count of 0, the mode, a jog that runs, and a section held by a
carrier that is not stalled. -/
def Obligations.JogStarts : Prop :=
  ∀ (tag : Byte) (body : List Byte) (s : State), s.offers .service .jog tag body →
    (body.length ≠ 3 → exec (.jog .service) s = .next (s.replied .service .refused tag [2#8])) ∧
    ∀ kind number count, body = [kind, number, count] →
    let names : JogTarget → Prop := fun x => match x with
      | .sectionAt k => kind = 1#8 ∧ number.toNat = k.val ∧ k.val < s.S
      | .spur i => kind = 2#8 ∧ number.toNat = i.val + 1 ∧ s.map.kindOf i ≠ none
    let joggable : JogTarget → Prop := fun x => match x with
      | .sectionAt k => (s.sec k).st = .free ∨ ∃ c, (s.car c).stalled = true ∧
          ((∃ w, (s.sec k).st = .reserved c w) ∨ (s.sec k).st = .occupied c ∨ (s.sec k).st = .trailing c)
      | .spur _ => True
    (kind ≠ 1#8 → kind ≠ 2#8 → exec (.jog .service) s = .next (s.replied .service .refused tag [3#8])) ∧
    ((kind = 1#8 ∨ kind = 2#8) →
      (s.map.state = .edit → exec (.jog .service) s = .next (s.replied .service .busy tag [3#8])) ∧
      (s.map.state = .invalid → exec (.jog .service) s = .next (s.replied .service .busy tag [4#8])) ∧
      (s.map.state = .valid →
        ((∀ x, ¬ names x) ∨ count = 0#8 → exec (.jog .service) s = .next (s.replied .service .refused tag [3#8])) ∧
        ∀ target, names target → count ≠ 0#8 →
          (s.track.mode = .park ∨ s.track.mode = .survey →
            exec (.jog .service) s = .next (s.replied .service .busy tag [4#8])) ∧
          (¬ (s.track.mode = .park ∨ s.track.mode = .survey) →
            (s.cars.jog.isSome = true → exec (.jog .service) s = .next (s.replied .service .busy tag [5#8])) ∧
            (s.cars.jog = none →
              (¬ joggable target → exec (.jog .service) s = .next (s.replied .service .refused tag [7#8])) ∧
              (joggable target → ∃ t, exec (.jog .service) s = .next t ∧
                t = { (s.replied .service .deferred tag []) with
                  cars := { s.cars with jog := some ⟨target, count.toNat, 0, tag⟩ }
                  gen := t.gen } ∧
                t.gen.interval.isSome = true ∧ (s.gen.interval.isSome = true → t.gen = s.gen))))))

/-! ## Reading -/

/-- READ_TRACK gives the mode record in 16 bytes, and changes nothing but the model's own count of free values. With a fault recorded at a
section or a station every byte is given; of a fault without a place all but the place number; and while no fault is recorded all but the
place number and the two bytes of the second count. Of those bytes, to which the manual gives no value, nothing is said but that each is
a byte (R166; log entry 4). -/
def Obligations.ReadTrackGivesTheModeRecord : Prop :=
  ∀ (tag : Byte) (s : State), s.offers .service .readTrack tag [] →
    (∃ x y z, exec (.readTrack .service) s =
      .next { (s.replied .service .done tag (s.track.bytes x y z)) with freeCount := s.freeCount + 3 } ∧
      (s.track.bytes x y z).length = 16) ∧
    let head : List Byte :=
      [match s.track.mode with
        | .park => 0#8
        | .warmup => 1#8
        | .run => 2#8
        | .slow => 3#8
        | .hold => 4#8
        | .survey => 5#8,
      match s.track.speed with
        | .run => 0#8
        | .slow => 1#8,
      match s.track.settle with
        | .hold => 0#8
        | .park => 1#8,
      packByte [s.track.autoParked, s.track.faultFlag, s.track.causePower, s.track.causePin, s.track.causeService]]
    let rest : List Byte :=
      [BitVec.ofNat 8 s.track.laterFaults,
        match s.track.completion with
        | .none => 0#8
        | .resume _ => 1#8
        | .survey _ => 2#8] ++
      (if s.track.mode = .warmup then byte2 s.track.warmCount else [0#8, 0#8]) ++
      [BitVec.ofNat 8 (s.track.countdown.getD 0),
        match s.track.survey.map SurveyRec.phase with
        | none => 0#8
        | some .awaitingWarmup => 1#8
        | some .sweep => 2#8
        | some .clearing => 3#8
        | some .returning => 4#8]
    ∀ x y z, (s.track.firstFault = none → s.track.bytes x y z = head ++ [0#8, 0xFF#8, x, 0xFF#8, y, z] ++ rest) ∧
      ∀ f, s.track.firstFault = some f → s.track.bytes x y z = head ++
        [match f.kind with
          | .unexpectedEntry => 1#8
          | .tagMismatch => 2#8
          | .stallLimit => 3#8
          | .driveFail => 4#8
          | .removedUnexpected => 5#8
          | .surveyFail => 6#8,
        match f.place with
          | .sectionAt _ => 0#8
          | .station _ => 1#8
          | .none => 0xFF#8,
        match f.place with
          | .sectionAt k => BitVec.ofNat 8 k.val
          | .station i => BitVec.ofNat 8 (i.val + 1)
          | .none => x,
        match f.carrier with
          | some c => BitVec.ofNat 8 c.val
          | none => 0xFF#8] ++ byte2 f.second ++ rest

/-- READ_SECTION, READ_STATION and READ_CARRIER give the record named in the manual's layout, byte by byte, and change nothing, but that
READ_SECTION on the service link clears the stray-edge count (R75, R97, R115). READ_LINES gives the logical states of the sensors, the
latches and the stray-read count in 19 bytes, flag by flag, and clears that count (R34). A sensor is active at a high accepted level, and
at a low one where its item makes it active low; one whose item is unset, and DRIVE_READY, is active high (R22). That this holds of E_k
with k at or above S, though no block reads its item (R1), is the model's reading of the two rules together (log entry 15). READ_LINK
gives the counts of the link it names, its own by default, and clears them; another link's counts are for the service link alone (R184).
-/
def Obligations.RecordsAreRead : Prop :=
  let carrier : Option CarrierId → Byte := fun x => match x with
    | some c => BitVec.ofNat 8 c.val
    | none => 0xFF#8
  let station : Option StationId → Byte := fun x => match x with
    | some i => BitVec.ofNat 8 (i.val + 1)
    | none => 0#8
  let flag : Bool → Byte := fun b => if b then 1#8 else 0#8
  (∀ (l : Link) (tag b : Byte) (s : State),
    (s.offers l .readSection tag [b] →
      (∀ k : SectionId, b.toNat = k.val → exec (.readSection l) s =
        .next { (s.replied l .done tag
          [BitVec.ofNat 8 k.val,
            match (s.sec k).st with
            | .free => 0#8
            | .reserved _ _ => 1#8
            | .occupied _ => 2#8
            | .trailing _ => 3#8,
            match (s.sec k).st with
            | .free => 0xFF#8
            | .reserved c _ | .occupied c | .trailing c => BitVec.ofNat 8 c.val,
            match (s.sec k).st with
            | .reserved _ .loop => 1#8
            | .reserved _ .merge => 2#8
            | .free | .occupied _ | .trailing _ => 0#8,
            flag (s.sec k).tailPending, station (s.sec k).spurPlace, carrier (s.sec k).loopClaim, station (s.sec k).mergeClaim,
            BitVec.ofNat 8 (s.sec k).passovers, BitVec.ofNat 8 s.secs.population,
            match s.map.loop with
            | none => 0#8
            | some x => BitVec.ofNat 8 (if x.limit = 0 then x.count - 2 else x.limit),
            BitVec.ofNat 8 s.secs.strayEdges]) with
          secs := { s.secs with strayEdges := if l = .service then 0 else s.secs.strayEdges } }) ∧
      (32 ≤ b.toNat → exec (.readSection l) s = .next (s.replied l .refused tag [3#8]))) ∧
    (l ≠ .counter → s.offers l .readStation tag [b] →
      (∀ i : StationId, b.toNat = i.val + 1 → exec (.readStation l) s = .next (s.replied l .done tag
        ([b,
          match (s.stn i).kind with
          | none => 0#8
          | some .stock => 1#8
          | some .counter => 2#8
          | some .depot => 3#8,
          match (s.stn i).dock with
          | .empty => 0#8
          | .docked _ => 1#8
          | .launching _ => 2#8,
          match (s.stn i).dock with
          | .empty => 0xFF#8
          | .docked c | .launching c => BitVec.ofNat 8 c.val,
          carrier (s.stn i).movingUp, carrier (s.stn i).launchPending, flag (s.stn i).launchGranted,
          BitVec.ofNat 8 (s.stn i).inbound, carrier (s.stn i).entryPending, BitVec.ofNat 8 (s.stn i).calls,
          flag (s.stn i).closed, BitVec.ofNat 8 (s.stn i).queue.length] ++
          (s.stn i).queue.map fun c => BitVec.ofNat 8 c.val))) ∧
      (b.toNat = 0 ∨ 13 ≤ b.toNat → exec (.readStation l) s = .next (s.replied l .refused tag [3#8]))) ∧
    (s.offers l .readCarrier tag [b] →
      (∀ c : CarrierId, b.toNat = c.val → exec (.readCarrier l) s = .next (s.replied l .done tag
        ([b,
          match (s.car c).state with
          | .out => 0#8
          | .unknown => 1#8
          | .idle => 2#8
          | .called => 3#8
          | .loading => 4#8
          | .delivering => 5#8
          | .presenting => 6#8
          | .returning => 7#8
          | .removing => 8#8,
          match (s.car c).place with
          | .none => 0#8
          | .loop _ => 1#8
          | .diverting _ => 2#8
          | .queue _ _ => 3#8
          | .docked _ => 4#8
          | .launching _ => 5#8,
          match (s.car c).place with
          | .none => 0xFF#8
          | .loop k => BitVec.ofNat 8 k.val
          | .diverting i | .queue i _ | .docked i | .launching i => BitVec.ofNat 8 (i.val + 1)] ++
          byte2 ((s.car c).order.getD 0) ++
          [station (s.car c).dest, BitVec.ofNat 8 ((s.car c).load + 16 * (s.car c).goArounds),
            packByte [(s.car c).stall.stretch == some .front, (s.car c).stall.tail, (s.car c).stall.stretch == some .launch,
              (s.car c).stall.stretch == some .dock, (s.car c).suspect, (s.car c).retirePending],
            BitVec.ofNat 8
              ((match (s.car c).passage.stretch with
                | .none => 0
                | .loop _ => 1
                | .divert _ => 2
                | .launch _ => 3
                | .dock _ => 4) +
              (if (s.car c).passage.watch = none then 0 else 8) + 16 * (s.car c).misreads)] ++
          byte2 (s.car c).passage.n ++ byte2 (s.car c).passage.budget ++ byte2 ((s.car c).passage.stopPoint.getD 0) ++
          byte2 (s.car c).passage.t ++ byte2 (s.car c).passage.trailBudget))) ∧
      (16 ≤ b.toNat → exec (.readCarrier l) s = .next (s.replied l .refused tag [3#8])))) ∧
  (∀ s : State,
    let level : Sensor → Prop → Prop := fun x low =>
      (low → s.active x = !(s.filter x).accepted) ∧ (¬ low → s.active x = (s.filter x).accepted)
    (∀ k : SectionId, level (.entry k) (∃ x, tget s.map.sections k = some x ∧ x.pol = .activeLow)) ∧
    (∀ i, level (.spurEntry i) (∃ x, tget s.map.stations i = some x ∧ x.polEntry = .activeLow)) ∧
    (∀ i, level (.dock i) (∃ x, tget s.map.stations i = some x ∧ x.polDock = .activeLow)) ∧
    level .driveReady False) ∧
  ∀ (l : Link) (tag : Byte) (s : State),
    (l = .service → s.offers l .readLines tag [] → ∃ bytes : List Byte,
      exec (.readLines l) s = .next { (s.replied l .done tag bytes) with line := { s.line with stray := 0 } } ∧
      bytes.length = 19 ∧
      let bit : Nat → Nat → Bool := fun first n => (bytes.getD (first + n / 8) 0#8).getLsbD (n % 8)
      (∀ k : SectionId, bit 0 k.val = s.active (.entry k) ∧ bit 8 k.val = tget s.line.latches.d k) ∧
      (∀ i : StationId, bit 4 i.val = s.active (.spurEntry i) ∧ bit 6 i.val = s.active (.dock i) ∧
        bit 12 i.val = tget s.line.latches.q i ∧ bit 14 i.val = tget s.line.latches.v i ∧
        bit 16 i.val = tget s.line.latches.g i) ∧
      bit 4 12 = s.active .driveReady ∧ bit 12 12 = s.line.latches.driveOn ∧
      (∀ first ∈ [6, 14, 16], bit first 12 = false) ∧
      (∀ first ∈ [4, 6, 12, 14, 16], bit first 13 = false ∧ bit first 14 = false ∧ bit first 15 = false) ∧
      bytes.getD 18 0#8 = BitVec.ofNat 8 s.line.stray) ∧
    (∀ body, s.offers l .readLink tag body →
      (∀ m, (body = [] ∧ m = l ∨ body = [BitVec.ofNat 8 (Sys2Proof.Machine.Link.code m)]) → (l = .service ∨ l = m) →
        ∃ t, exec (.readLink l) s = .next t ∧
          (t.link l).tx = (s.link l).tx ++ [⟨.answer .done, tag,
            [BitVec.ofNat 8 (Sys2Proof.Machine.Link.code m), BitVec.ofNat 8 (s.link m).counts.parity,
              BitVec.ofNat 8 (s.link m).counts.framing, BitVec.ofNat 8 (s.link m).counts.check,
              BitVec.ofNat 8 (s.link m).counts.gap, BitVec.ofNat 8 (s.link m).counts.overrun,
              BitVec.ofNat 8 (s.link m).counts.brk, BitVec.ofNat 8 (s.link m).counts.dropped]⟩] ∧
          (t.link m).counts = ⟨0, 0, 0, 0, 0, 0, 0⟩ ∧ (∀ n, n ≠ m → (t.link n).counts = (s.link n).counts) ∧
          t = { s with links := t.links }) ∧
      (∀ m, body = [BitVec.ofNat 8 (Sys2Proof.Machine.Link.code m)] → l ≠ .service → l ≠ m →
        exec (.readLink l) s = .next (s.replied l .refused tag [1#8])) ∧
      (∀ b, body = [b] → 3 ≤ b.toNat → exec (.readLink l) s = .next (s.replied l .refused tag [3#8])) ∧
      (2 ≤ body.length → exec (.readLink l) s = .next (s.replied l .refused tag [2#8])))

/-! ## Time -/

/-- A millisecond event samples every pin and advances every filter, every waiting slot and, in WARMUP, the warm-up count; the 1000th
makes a second event due. A level that has differed for more than F samples is due to be accepted (R21, R27, R39, R159). That the
acceptance and the second event are commands of their own, due until taken, is the model's choice (log entry 2). -/
def Obligations.MillisecondEvent : Prop :=
  ∀ (high : List Sensor) (s : State), ∃ t, exec (.millisecondEvent high) s = .next t ∧
    t = { s with line := t.line, time := t.time, track := t.track } ∧
    t.line = { s.line with pins := pinsOf high, filters := t.line.filters, slots := t.line.slots } ∧
    (∀ i, (tget s.line.filters i).due = false →
      tget t.line.filters i =
        if tget (pinsOf high) i = (tget s.line.filters i).accepted then { (tget s.line.filters i) with hold := 0 }
        else ⟨(tget s.line.filters i).accepted, min ((tget s.line.filters i).hold + 1) 16,
          decide (s.map.params.filter < (tget s.line.filters i).hold + 1)⟩) ∧
    (∀ r, tget t.line.slots r = match tget s.line.slots r with
      | .empty => .empty
      | .leadWaiting w => .leadWaiting (w - 1)
      | .reportWaiting x w => .reportWaiting x (w - 1)) ∧
    (s.time.ms < 999 → t.time = ⟨s.time.ms + 1, s.time.secondDue⟩) ∧ (s.time.ms = 999 → t.time = ⟨0, true⟩) ∧
    (s.track.mode ≠ .warmup → t.track = s.track) ∧
    (s.track.mode = .warmup → s.track.warmCount < 50 * s.track.warmW →
      t.track = { s.track with warmCount := s.track.warmCount + 1 })

/-- At a second event the age of every order is incremented, stopping at 65535, in every mode, map state and state of the order, and
the second count and the autopark countdown advance; nothing else changes (R138, R39, R154, R161). That the event is a command that
acts only while it is due is the model's choice (log entry 2). -/
def Obligations.SecondEventAges : Prop :=
  ∀ s : State, s.time.secondDue = true → exec .secondEvent s =
    .next { s with
      time := { s.time with secondDue := false }
      book := { s.book with orders := s.book.orders.map fun o => { o with age := min (o.age + 1) 65535 } }
      track := { s.track with seconds := min (s.track.seconds + 1) 65535, countdown := s.track.countdown.map fun n => n - 1 } }

/-! ## Sensors and tags -/

/-- While the map is not VALID, and for a sensor not in use, an accepted level changes the sensor's own filter, and at a LEAD its own
pending-read slot, alone: an EMPTY or LEAD_WAITING slot becomes LEAD_WAITING with window 40, and a REPORT_WAITING one becomes EMPTY. The
other filters and slots, the section table, the spur unit, the carriers, the orders and the track take no event (R13, R20, R25). -/
def Obligations.EventsAreDropped : Prop :=
  ∀ (x : Sensor) (s : State), x ≠ .driveReady → (s.filter x).due = true → (s.map.state ≠ .valid ∨ s.inUse x = false) →
    ∃ t, exec (.sensorLevelAccepted x) s = .next t ∧
      t = { s with line := { s.line with filters := t.line.filters, slots := t.line.slots } } ∧
      t.filter x = ⟨!(s.filter x).accepted, 0, false⟩ ∧ (∀ y, y ≠ x → t.filter y = s.filter y) ∧
      (∀ r, readerOf x ≠ some r ∨ s.active x = true → tget t.line.slots r = tget s.line.slots r) ∧
      (∀ r, readerOf x = some r → s.active x = false → tget t.line.slots r = match tget s.line.slots r with
        | .empty | .leadWaiting _ => .leadWaiting 40
        | .reportWaiting _ _ => .empty)

/-- The LEAD of E_k by which a carrier enters a section RESERVED for it, with no report waiting: the section becomes OCCUPIED by that carrier
with its tail pending, and its read result is awaited (R65). `u` is the state before the carrier claims its next place, which
ArbiterBoundsPassovers gives, and the drive rule is applied to sections k − 1 and k after it. Along the loop, section k − 1 becomes
TRAILING for the carrier; a tail still pending there is so no more, and section k − 2 becomes FREE and its arbiter runs if it is TRAILING
for it. From a launch, no section behind changes, and the launch leaves its station, `x`: it is no longer pending nor granted, the
carrier is out of the queue, and a dock still LAUNCHING is EMPTY with its gate closed and the queue's first moving up where none was; a
held launch of the dock carrier is then requested, as DispatcherOrders says; where the section entered is the station's merge section, it
becomes pending, with its merge claim at the tail of the admission queue (R66, R89, R91). In the carrier table every stall of the carrier
ends, a LOOP stretch of section k begins at n = 0 with its budget and its stop point, and a watch of E_k is armed at t = 0 (R41, R42,
R48). The TRAIL of E_k: with no tail pending the stray-edge count is incremented and nothing else changes; with the tail of holder c
pending, it is pending no more, section k − 1 becomes FREE and its arbiter runs if it is TRAILING for c and is left otherwise, and in the
carrier table c's watch of E_k ends, with t kept (log entry 8), and a TAIL stall with it (R69, R49, R107). The read result of E_k outside
the survey is checked against the carrier awaited: that carrier's own number is a good read, NO_READ a misread, the fourth in a row of
which makes the carrier suspect, and another number is TAG_MISMATCH; a result that no carrier awaits is discarded, with a stray edge
where none at all was awaited (R68, R109). -/
def Obligations.EntryOccupiesTheSection : Prop :=
  (∀ (k : SectionId) (c : CarrierId) (w : Way) (s : State), s.map.state = .valid → k.val < s.S → s.sweeping = false →
    (s.filter (.entry k)).due = true → s.active (.entry k) = false → s.prevSec k ≠ k → s.nextSec k ≠ k →
    tget s.line.slots ⟨k.val, by omega⟩ = .empty → (s.sec k).st = .reserved c w →
    ∃ t, exec (.sensorLevelAccepted (.entry k)) s = .next t ∧
      (t.sec k).st = .occupied c ∧ (t.sec k).tailPending = true ∧ (t.sec k).awaited = .carrier c ∧
      tget t.line.slots ⟨k.val, by omega⟩ = .leadWaiting 40 ∧ t.map = s.map ∧
      let prev := s.prevSec k
      let behind := s.prevSec prev
      ∃ u : State, t = (((u.claimNext c k).applyDrive prev).applyDrive k).finish ∧
        u.sec k = { (s.sec k) with st := .occupied c, tailPending := true, awaited := .carrier c, mergeClaim := (u.sec k).mergeClaim } ∧
        u.map = s.map ∧ u.book = s.book ∧ u.track = s.track ∧ u.links = s.links ∧
        (w = .loop →
          (u.sec k).mergeClaim = (s.sec k).mergeClaim ∧ u.car c = (s.enterRecord k c).car c ∧
          ((s.sec prev).st ≠ .occupied c → u.secs = { s.secs with recs := tset s.secs.recs k (u.sec k) }) ∧
          ((s.sec prev).st = .occupied c →
            u.sec prev = { (s.sec prev) with st := .trailing c, tailPending := false } ∧
            (¬ ((s.sec prev).tailPending = true ∧ (s.sec behind).st = .trailing c) →
              behind ≠ k → behind ≠ prev → u.sec behind = s.sec behind) ∧
            ((s.sec prev).tailPending = true → (s.sec behind).st = .trailing c →
              u.sec behind = ((s.setSec behind { (s.sec behind) with st := .free }).arbiter behind).sec behind))) ∧
        (∀ i, w = .merge → (s.sec prev).st ≠ .occupied c → (s.stn i).launchPending = some c → (s.stn i).launchGranted = true →
          (∀ j, (s.stn j).launchPending = some c → j = i) →
          let held : Option CarrierId := (s.stn i).heldLaunch.filter fun d => (s.stn i).dock = .docked d
          let stands : Bool := match (s.stn i).dock with
            | .launching _ => true
            | _ => false
          let queue := (s.stn i).queue.filter fun d => d ≠ c
          ∃ x : State,
            x.secs = { s.secs with
              recs := tset s.secs.recs k { (s.sec k) with st := .occupied c, tailPending := true, awaited := .carrier c } } ∧
            x.stn i = { (s.stn i) with
              queue := queue, launchPending := none, launchGranted := false
              heldLaunch := if held = none then (s.stn i).heldLaunch else none
              dock := if stands then .empty else (s.stn i).dock
              movingUp := if stands ∧ (s.stn i).movingUp = none then queue.head? else (s.stn i).movingUp } ∧
            (∀ j, j ≠ i → x.stn j = s.stn j) ∧ x.car c = (s.enterRecord k c).car c ∧
            tget x.line.latches.g i = (if stands then false else tget s.line.latches.g i) ∧
            x.map = s.map ∧ x.book = s.book ∧ x.track = s.track ∧ x.links = s.links ∧
            (held = none → u = x) ∧
            (∀ d, held = some d → u = x.requestLaunch i d ∧
              (s.mergeSec i = k →
                u.stn i = { (x.stn i) with launchPending := some d } ∧ (u.sec k).mergeClaim = some i ∧ u.car c = x.car c ∧
                u.secs = { s.secs with
                  recs := tset s.secs.recs k (u.sec k)
                  admission := if (s.sec k).mergeClaim = some i then s.secs.admission else s.secs.admission ++ [i] })))) ∧
  (∀ (k : SectionId) (c : CarrierId) (s : State),
    let len := s.map.sectionLen k
    let factor := 100 + s.map.params.slack + s.map.params.loadMargin * (s.car c).load
    (s.enterRecord k c).car c = { (s.car c) with
      place := .loop k
      stall := ⟨none, false⟩
      passage :=
        { stretch := .loop k, n := 0, budget := min 4095 ((len * factor + 99) / 100), stopPoint := some (len - s.map.params.guard)
          overrun := false, watch := some (.entry k), t := 0
          trailBudget := min 4095 ((s.map.params.carrierLen * factor + 99) / 100), tailOverrun := false } } ∧
    (∀ c', c' ≠ c → (s.enterRecord k c).car c' = s.car c')) ∧
  (∀ (k : SectionId) (s : State), s.map.state = .valid → k.val < s.S → s.sweeping = false →
    (s.filter (.entry k)).due = true → s.active (.entry k) = true →
    let accepted := s.accepted (.entry k)
    let prev := s.prevSec k
    ((s.sec k).tailPending = false → exec (.sensorLevelAccepted (.entry k)) s =
      .next { accepted with secs := { s.secs with strayEdges := min (s.secs.strayEdges + 1) 255 } }.finish) ∧
    (∀ c, (s.sec k).tailPending = true → (s.sec k).st.holder = some c → prev ≠ k →
      ∃ u : State, exec (.sensorLevelAccepted (.entry k)) s = .next u.finish ∧
        u.sec k = { (s.sec k) with tailPending := false } ∧
        ((s.sec prev).st ≠ .trailing c → u.secs = { s.secs with recs := u.secs.recs } ∧ u.sec prev = s.sec prev) ∧
        ((s.sec prev).st = .trailing c →
          u.sec prev = ((accepted.setSec prev { (s.sec prev) with st := .free }).arbiter prev).sec prev) ∧
        (∀ j, j ≠ k → j ≠ prev → u.sec j = s.sec j) ∧
        (u.car c).passage.t = (s.car c).passage.t ∧ (u.car c).passage.trailBudget = (s.car c).passage.trailBudget ∧
        (u.car c).stall.stretch = (s.car c).stall.stretch ∧
        ((s.car c).passage.watch = some (.entry k) →
          (u.car c).passage.watch = none ∧ (u.car c).stall.tail = false) ∧
        ((s.car c).passage.watch ≠ some (.entry k) →
          (u.car c).passage.watch = (s.car c).passage.watch ∧ (u.car c).stall.tail = (s.car c).stall.tail) ∧
        tget u.line.latches.d k = u.driveEnabled k ∧
        u.map = s.map ∧ u.book = s.book ∧ u.track = s.track ∧ u.links = s.links)) ∧
  ∀ (k : SectionId) (read : Option CarrierId) (s : State), s.map.state = .valid → k.val < s.S → s.sweeping = false →
    let taken : State := s.setSec k { (s.sec k) with awaited := .none }
    (∀ c, (s.sec k).awaited = .carrier c → s.provisional c = false →
      (read = some c →
        s.deliverRead (.entry k) read = (taken.modCar c fun r => { r with misreads := 0 }).finish) ∧
      (read = none →
        s.deliverRead (.entry k) read = (taken.modCar c fun r =>
          { r with misreads := min (r.misreads + 1) 15, suspect := if r.misreads = 3 then true else r.suspect }).finish) ∧
      (∀ d, read = some d → d ≠ c →
        s.deliverRead (.entry k) read = (taken.raiseFault .tagMismatch (.sectionAt k) (some c)).finish)) ∧
    ((s.sec k).awaited = .unexpected → s.deliverRead (.entry k) read = taken.finish) ∧
    ((s.sec k).awaited = .none → s.deliverRead (.entry k) read =
      { taken with secs := { taken.secs with strayEdges := min (s.secs.strayEdges + 1) 255 } }.finish)

/-- The LEAD of N_s by which the junction's carrier, a spur place granted, enters the spur: it is the queue's last, inbound falls by one, its
entry is pending, V_s is inactive, a tail still pending is freed behind, the junction is TRAILING for it with no place, p falls and the
admission queue is re-examined (R62), its stall and stretch end, a watch of N_s is armed with its T (R48); at a DEPOT a RETURNING carrier
is IDLE; at an EMPTY dock that none moves up to, the first not launch pending moves up (R85, R70, R82). The LEAD of K_s by which the
carrier moving up docks, no report waiting: it holds the dock, its stretch ends (n 0, overrun no: log entry 8), its read is awaited
(R86). At its stop the order is AT_STOCK, the carrier LOADING, and LOAD_CALL lists the lines; at its counter AT_COUNTER and PRESENTING,
and ARRIVED is sent (R128, R132); at a DEPOT a RETURNING carrier is IDLE, or REMOVING if retire-pending, as is an IDLE one; any other is
launched (R88). The TRAIL of N_s: ignored with no entry pending; else none is pending, a junction TRAILING for the carrier is freed, and
its watch of N_s and a TAIL stall end (R83), t kept (log entry 8). The TRAIL of K_s: ignored at an EMPTY dock; at a LAUNCHING dock the
launch leaves it, the gate closes and a move-up begins (R91), and a station FOUND by the survey is DRIVING again (R172); at a dock whose
carrier is REMOVING, it leaves the queue and is OUT (R92); at any other DOCKED dock REMOVED_UNEXPECTED is raised, the carrier leaves the
queue and is UNKNOWN, its launch and its claim are withdrawn, and its order ends FAILED with the call of a first stop not done (R93). A
junction TRAILING for a carrier so removed is freed (R56); the fault first, then this, and the entry kept, are the model's (log entry 9).
The read of K_s outside the survey is checked as E_k's is, but one nothing awaits is discarded uncounted (R87, R109). `u` is the state
before the dispatch pass, and in the clause on every docking before R88's effects too. -/
def Obligations.SpurEntryAndDocking : Prop :=
  (∀ (i : StationId) (c : CarrierId) (s : State), s.map.state = .valid → (s.map.kindOf i).isSome = true →
    (s.filter (.spurEntry i)).due = true → s.active (.spurEntry i) = false → (s.stn i).inbound ≠ 0 →
    (s.sec (s.stn i).junction).st = .occupied c → (s.sec (s.stn i).junction).spurPlace = some i →
    ∃ u : State, exec (.sensorLevelAccepted (.spurEntry i)) s = .next u.finish ∧
      tget u.line.latches.v i = false ∧
      (let j := (s.stn i).junction
       let prev := s.prevSec j
       let accepted := s.accepted (.spurEntry i)
       let behind : State := if (s.sec j).tailPending = true ∧ (s.sec prev).st = .trailing c
         then (accepted.setSec prev { (s.sec prev) with st := .free }).arbiter prev else accepted
       let left : State := { behind with secs := { behind.secs with
         recs := tset behind.secs.recs j { (behind.sec j) with st := .trailing c, tailPending := false, spurPlace := none }
         population := behind.secs.population - 1 } }
       let r := left.reexamine.stn i
       let queue := (s.stn i).queue ++ [c]
       let movesUp : Option CarrierId :=
         if r.dock = .empty ∧ r.movingUp = none then queue.find? fun d => some d ≠ (s.stn i).launchPending else none
       u.secs = left.reexamine.secs ∧ u.sec j = left.sec j ∧ tget u.line.latches.d j = u.driveEnabled j ∧
       u.stn i = { r with
         queue := queue, inbound := (s.stn i).inbound - 1, entryPending := some c
         movingUp := if movesUp = none then r.movingUp else movesUp } ∧
       (movesUp ≠ some c → (u.car c).passage.stretch = .none) ∧
       (∀ d, movesUp = some d →
         let p := (u.car d).passage
         p.stretch = .dock i ∧ p.n = 0 ∧ p.stopPoint = none ∧ p.overrun = false ∧
         p.budget = min 4095
           ((s.map.approach i * (100 + s.map.params.slack + s.map.params.loadMargin * (u.car d).load) + 99) / 100))) ∧
      (u.car c).place = .queue i (s.stn i).queue.length ∧
      (u.car c).stall = ⟨none, false⟩ ∧ (u.car c).passage.watch = some (.spur i) ∧ (u.car c).passage.t = 0 ∧
      (u.car c).passage.tailOverrun = false ∧
      (u.car c).passage.trailBudget = min 4095
        ((s.map.params.carrierLen * (100 + s.map.params.slack + s.map.params.loadMargin * (s.car c).load) + 99) / 100) ∧
      ((s.stn i).kind = some .depot → (s.car c).state = .returning →
        (u.car c).state = .idle ∧ (u.car c).dest = none ∧ (u.car c).order = none ∧ (u.car c).load = 0) ∧
      (¬ ((s.stn i).kind = some .depot ∧ (s.car c).state = .returning) →
        (u.car c).state = (s.car c).state ∧ (u.car c).dest = (s.car c).dest ∧ (u.car c).order = (s.car c).order) ∧
      u.map = s.map ∧ u.book = s.book ∧ u.track = s.track ∧ u.links = s.links) ∧
  (∀ (i : StationId) (c : CarrierId) (o : Order) (s : State), s.map.state = .valid → (s.map.kindOf i).isSome = true →
    (s.filter (.dock i)).due = true → s.active (.dock i) = false → tget s.line.slots ⟨32 + i.val, by omega⟩ = .empty →
    s.driving i = false → (s.stn i).movingUp = some c → (s.stn i).kind = some .counter →
    (s.car c).state = .delivering → (s.car c).dest = some i → s.orderOfCar c = some o →
    ∃ u : State, exec (.sensorLevelAccepted (.dock i)) s = .next u.finish ∧
      (u.stn i).dock = .docked c ∧ (u.stn i).movingUp = none ∧ (u.stn i).awaitedDock = .carrier c ∧
      (u.stn i).queue = (s.stn i).queue ∧
      (u.car c).state = .presenting ∧ (u.car c).place = .docked i ∧ (u.car c).passage.stretch = .none ∧
      (u.car c).stall.stretch = none ∧ (∀ d, d ≠ c → u.car d = s.car d) ∧
      u.book = { s.book with orders := s.book.orders.map fun x =>
        if x.ticket = o.ticket then { x with state := .atCounter } else x } ∧
      tget u.line.slots ⟨32 + i.val, by omega⟩ = .leadWaiting 40 ∧
      u.links = s.links.set .counter
        ((s.link .counter).notice ⟨.notice .arrived, 0#8, byte2 o.ticket ++ [BitVec.ofNat 8 o.window]⟩) ∧
      u.secs = s.secs ∧ u.track = s.track ∧ u.map = s.map) ∧
  (∀ (i : StationId) (c : CarrierId) (s : State), s.map.state = .valid → (s.map.kindOf i).isSome = true →
    (s.filter (.dock i)).due = true → s.active (.dock i) = false → tget s.line.slots ⟨32 + i.val, by omega⟩ = .empty →
    s.driving i = false → (s.stn i).movingUp = some c →
    let becomes : CarState → CarrierRec → CarrierRec := fun x r => { (r.setDest none) with state := x, order := none, load := 0 }
    ∃ u : State,
      u.stn i = { (s.stn i) with dock := .docked c, movingUp := none, awaitedDock := .carrier c } ∧
      u.car c = { (s.car c) with
        place := .docked i
        stall := { (s.car c).stall with stretch := none }
        passage := { (s.car c).passage with stretch := .none, n := 0, budget := 0, stopPoint := none, overrun := false } } ∧
      (∀ d, d ≠ c → u.car d = s.car d) ∧ tget u.line.slots ⟨32 + i.val, by omega⟩ = .leadWaiting 40 ∧
      u.secs = s.secs ∧ u.book = s.book ∧ u.track = s.track ∧ u.links = s.links ∧ u.map = s.map ∧
      let leads : State → Prop := fun t => exec (.sensorLevelAccepted (.dock i)) s = .next (t.applySpur i).finish
      ((s.stn i).kind = some .stock →
        (∀ o, (s.car c).state = .called → (s.car c).dest = some i → s.orderOfCar c = some o →
          let called : List (Sys2Proof.Machine.Line × Nat) := o.lines.zipIdx.filter fun x => x.1.station == i
          let arrived : State := { u with book := { s.book with orders := s.book.orders.map fun x =>
            if x.ticket = o.ticket then { x with state := .atStock } else x } }
          leads ((arrived.modCar c fun r => { r with state := .loading }).notice
            .stock .loadCall 0#8 (byte2 o.ticket ++ [BitVec.ofNat 8 (i.val + 1), BitVec.ofNat 8 called.length] ++
              called.flatMap fun x => [BitVec.ofNat 8 x.2] ++ byte2 x.1.bin ++ [BitVec.ofNat 8 x.1.qty]))) ∧
        (¬ ((s.car c).state = .called ∧ (s.car c).dest = some i) → leads (u.requestLaunch i c))) ∧
      ((s.stn i).kind = some .counter → ¬ ((s.car c).state = .delivering ∧ (s.car c).dest = some i) →
        leads (u.requestLaunch i c)) ∧
      ((s.stn i).kind = some .depot →
        ((s.car c).state = .returning →
          leads (u.modCar c (becomes (if (s.car c).retirePending then .removing else .idle)))) ∧
        ((s.car c).state = .idle →
          leads (if (s.car c).retirePending then u.modCar c (becomes .removing) else u)) ∧
        ((s.car c).state ≠ .returning → (s.car c).state ≠ .idle → leads (u.requestLaunch i c)))) ∧
  (∀ (i : StationId) (s : State), s.map.state = .valid → (s.map.kindOf i).isSome = true →
    (s.filter (.spurEntry i)).due = true → s.active (.spurEntry i) = true →
    let accepted := s.accepted (.spurEntry i)
    let j := (s.stn i).junction
    ((s.stn i).entryPending = none → exec (.sensorLevelAccepted (.spurEntry i)) s = .next accepted.finish) ∧
    (∀ c, (s.stn i).entryPending = some c →
      ∃ u : State, exec (.sensorLevelAccepted (.spurEntry i)) s = .next u.finish ∧
        (u.stn i).entryPending = none ∧
        ((s.sec j).st ≠ .trailing c → u.secs = s.secs ∧ u.stn i = { (s.stn i) with entryPending := none }) ∧
        ((s.sec j).st = .trailing c → u.sec j = ((accepted.setSec j { (s.sec j) with st := .free }).arbiter j).sec j) ∧
        (u.car c).passage.t = (s.car c).passage.t ∧ (u.car c).stall.stretch = (s.car c).stall.stretch ∧
        ((s.car c).passage.watch = some (.spur i) → (u.car c).passage.watch = none ∧ (u.car c).stall.tail = false) ∧
        ((s.car c).passage.watch ≠ some (.spur i) →
          (u.car c).passage.watch = (s.car c).passage.watch ∧ (u.car c).stall.tail = (s.car c).stall.tail) ∧
        tget u.line.latches.q i = u.spurEnabled i ∧
        u.map = s.map ∧ u.book = s.book ∧ u.track = s.track ∧ u.links = s.links)) ∧
  (∀ (i : StationId) (s : State), s.map.state = .valid → (s.map.kindOf i).isSome = true →
    (s.filter (.dock i)).due = true → s.active (.dock i) = true →
    let accepted := s.accepted (.dock i)
    let j := (s.stn i).junction
    let freed := (accepted.setSec j { (s.sec j) with st := .free }).arbiter j
    ((s.stn i).dock = .empty → exec (.sensorLevelAccepted (.dock i)) s = .next accepted.finish) ∧
    (∀ c, (s.stn i).dock = .launching c →
      ∃ u : State, exec (.sensorLevelAccepted (.dock i)) s = .next u.finish ∧
        (u.stn i).dock = .empty ∧ tget u.line.latches.g i = false ∧ (u.stn i).queue = (s.stn i).queue ∧
        (u.stn i).launchPending = (s.stn i).launchPending ∧ (u.stn i).launchGranted = (s.stn i).launchGranted ∧
        (∀ d, (s.stn i).movingUp = none → (s.stn i).firstWaiting = some d →
          (u.stn i).movingUp = some d ∧ (u.car d).passage.stretch = .dock i ∧ (u.car d).passage.n = 0) ∧
        (s.clearingOf i ≠ .found → u.track = s.track) ∧
        (∀ v, s.track.survey = some v → tget v.clearing i = .found →
          u.track = { s.track with survey := some { v with
            clearing := tset v.clearing i (.driving 0 ((s.map.approach i * (100 + s.map.params.slack) + 99) / 100) false) } }) ∧
        u.map = s.map ∧ u.secs = s.secs ∧ u.book = s.book ∧ u.links = s.links) ∧
    (∀ c, (s.stn i).dock = .docked c → (s.car c).state = .removing →
      ∃ u : State, exec (.sensorLevelAccepted (.dock i)) s = .next u.finish ∧
        (u.stn i).dock = .empty ∧ (u.stn i).queue = (s.stn i).queue.filter (fun d => d ≠ c) ∧
        (u.car c).state = .out ∧ (u.car c).place = .none ∧ (u.car c).passage = Passage.clear ∧
        (u.car c).stall = ⟨none, false⟩ ∧ (u.stn i).entryPending = (s.stn i).entryPending ∧
        ((s.sec j).st ≠ .trailing c → u.secs = s.secs) ∧
        ((s.sec j).st = .trailing c → u.sec j = freed.sec j ∧ ∀ k, k ≠ j → u.sec k = s.sec k) ∧
        u.map = s.map ∧ u.book = s.book ∧ u.track = s.track ∧ u.links = s.links) ∧
    (∀ c, (s.stn i).dock = .docked c → (s.car c).state ≠ .removing →
      let faulted := accepted.raiseFault .removedUnexpected (.station i) (some c)
      ∃ u : State, exec (.sensorLevelAccepted (.dock i)) s = .next u.finish ∧
        u.track = faulted.track ∧ (u.stn i).dock = .empty ∧ (u.stn i).queue = (s.stn i).queue.filter (fun d => d ≠ c) ∧
        (u.car c).state = .unknown ∧ (u.car c).place = .none ∧ (u.car c).dest = none ∧ (u.car c).order = none ∧
        (u.car c).passage = Passage.clear ∧ (u.car c).stall = ⟨none, false⟩ ∧
        ((s.stn i).launchPending = some c → (u.stn i).launchPending = none ∧ (u.stn i).launchGranted = false ∧
          (u.sec (s.mergeSec i)).mergeClaim = none ∧ i ∉ u.secs.admission) ∧
        ((s.stn i).launchPending ≠ some c → (u.stn i).launchPending = (s.stn i).launchPending ∧
          ((s.sec j).st ≠ .trailing c → u.secs = s.secs)) ∧
        ((s.sec j).st = .trailing c → s.mergeSec i ≠ j →
          u.sec j = freed.sec j ∧ ∀ k, k ≠ j → k ≠ s.mergeSec i → u.sec k = s.sec k) ∧
        (u.stn i).entryPending = (s.stn i).entryPending ∧
        ((s.stn i).heldLaunch = some c → (u.stn i).heldLaunch = none) ∧
        (s.orderOfCar c = none → u.book = s.book ∧ u.links = faulted.links ∧ ∀ f, (u.stn f).calls = (s.stn f).calls) ∧
        (∀ o, s.orderOfCar c = some o →
          u.book = { s.book with orders := s.book.orders.filter fun x => x.ticket ≠ o.ticket } ∧
          u.links = faulted.links.set o.origin.link ((faulted.link o.origin.link).notice ⟨.notice .completion, o.originTag,
            [0x01#8, 4#8] ++ byte2 o.ticket ++ [packByte (o.lines.map fun x => x.status == .short)]⟩) ∧
          ∀ f, (u.stn f).calls =
            if o.nextStop = 0 ∧ o.stops.head? = some f then (s.stn f).calls - 1 else (s.stn f).calls) ∧
        u.map = s.map)) ∧
  ∀ (i : StationId) (read : Option CarrierId) (s : State), s.map.state = .valid → (s.map.kindOf i).isSome = true →
    (∀ n b, s.clearingOf i ≠ .driving n b true) →
    let taken : State := s.setStn i { (s.stn i) with awaitedDock := .none }
    (∀ c, (s.stn i).awaitedDock = .carrier c → s.provisional c = false →
      (read = some c →
        s.deliverRead (.dock i) read = (taken.modCar c fun r => { r with misreads := 0 }).finish) ∧
      (read = none →
        s.deliverRead (.dock i) read = (taken.modCar c fun r =>
          { r with misreads := min (r.misreads + 1) 15, suspect := if r.misreads = 3 then true else r.suspect }).finish) ∧
      (∀ d, read = some d → d ≠ c →
        s.deliverRead (.dock i) read = (taken.raiseFault .tagMismatch (.station i) (some c)).finish)) ∧
    ((s.stn i).awaitedDock = .unexpected ∨ (s.stn i).awaitedDock = .none → s.deliverRead (.dock i) read = taken.finish)

/-- A TRAIL of DRIVE_READY raises DRIVE_FAIL in RUN, SLOW, HOLD and SURVEY, with no place and no carrier, and raises no fault in PARK and
WARMUP (R160). A LEAD of DRIVE_READY changes nothing by itself; that it does so in WARMUP too, where R159 tests the end of the warm-up
at that LEAD, is the model's choice: the end of a warm-up is a command of its own, WARMUP_END (log entry 2). The LEAD of E_k of a
section that is not RESERVED raises UNEXPECTED_ENTRY with the section's number and its holder, and the read result that follows is
awaited as that of an unexpected carrier (R67). The LEAD of N_s with no place inbound raises UNEXPECTED_ENTRY with the station and no
carrier, and changes nothing else (R82); that one with a place inbound, but no carrier that holds the junction with that place, does the
same is the model's reading (log entry 9). The LEAD of K_s with no carrier moving up, at a station the survey is not clearing, raises
UNEXPECTED_ENTRY with the station and the dock carrier, and its read result is awaited as that of an unexpected carrier (R86). -/
def Obligations.UnexpectedLevelsRaiseFaults : Prop :=
  (∀ s : State, (s.filter .driveReady).due = true →
    let accepted := s.accepted .driveReady
    (s.active .driveReady = true → (s.track.mode = .park ∨ s.track.mode = .warmup) →
      exec (.sensorLevelAccepted .driveReady) s = .next accepted.finish) ∧
    (s.active .driveReady = true → ¬ (s.track.mode = .park ∨ s.track.mode = .warmup) →
      exec (.sensorLevelAccepted .driveReady) s = .next (accepted.raiseFault .driveFail .none none).finish) ∧
    (s.active .driveReady = false → exec (.sensorLevelAccepted .driveReady) s = .next accepted.finish)) ∧
  (∀ (k : SectionId) (s : State), s.map.state = .valid → k.val < s.S → s.sweeping = false →
    (s.filter (.entry k)).due = true → s.active (.entry k) = false → tget s.line.slots ⟨k.val, by omega⟩ = .empty →
    (∀ c w, (s.sec k).st ≠ .reserved c w) →
    let accepted := s.accepted (.entry k)
    let waiting : State := { accepted with line := { accepted.line with
      slots := tset accepted.line.slots ⟨k.val, by omega⟩ (.leadWaiting 40) } }
    exec (.sensorLevelAccepted (.entry k)) s =
      .next ((waiting.setSec k { (s.sec k) with awaited := .unexpected }).raiseFault .unexpectedEntry (.sectionAt k)
        (s.sec k).st.holder).finish) ∧
  (∀ (i : StationId) (s : State), s.map.state = .valid → (s.map.kindOf i).isSome = true →
    (s.filter (.spurEntry i)).due = true → s.active (.spurEntry i) = false →
    (s.stn i).inbound = 0 ∨ ¬ (∃ c, (s.sec (s.stn i).junction).st = .occupied c ∧ (s.sec (s.stn i).junction).spurPlace = some i) →
    exec (.sensorLevelAccepted (.spurEntry i)) s =
      .next ((s.accepted (.spurEntry i)).raiseFault .unexpectedEntry (.station i) none).finish) ∧
  ∀ (i : StationId) (s : State), s.map.state = .valid → (s.map.kindOf i).isSome = true →
    (s.filter (.dock i)).due = true → s.active (.dock i) = false → tget s.line.slots ⟨32 + i.val, by omega⟩ = .empty →
    s.driving i = false → (s.stn i).movingUp = none →
    let accepted := s.accepted (.dock i)
    let waiting : State := { accepted with line := { accepted.line with
      slots := tset accepted.line.slots ⟨32 + i.val, by omega⟩ (.leadWaiting 40) } }
    exec (.sensorLevelAccepted (.dock i)) s =
      .next ((waiting.setStn i { (s.stn i) with awaitedDock := .unexpected }).raiseFault .unexpectedEntry (.station i)
        (match (s.stn i).dock with
          | .empty => none
          | .docked c | .launching c => some c)).finish

/-- A completed report is checked: a reader number above 43, and that of a sensor not in use, discard it with a stray-read count; an id
0..15 is a read of that carrier, FFh a report of no read, and 16..254 a report of no read with a stray-read count (R24). A report that
passes meets its slot: a LEAD_WAITING slot becomes EMPTY and the read result, a carrier or NO_READ, is delivered; an EMPTY slot becomes
REPORT_WAITING with window 40; a REPORT_WAITING slot takes the new report with window 40 and the stray-read count is incremented (R26).
While the map is not VALID the checks are made against the map as it stands, reports are paired as usual, and a read result is dropped
when it is delivered (R24). The count stops at 255. -/
def Obligations.ReportsMeetSlots : Prop :=
  ∀ (reader id : Byte) (s : State), s.line.tagBreak = false → s.line.tagHalf = none →
    let counted : State := { s with line := { s.line with stray := min (s.line.stray + 1) 255 } }
    (44 ≤ reader.toNat → exec (.tagReport [reader, id]) s = .next counted) ∧
    ∀ r : ReaderId, reader.toNat = r.val →
      (s.inUse (sensorOfReader r) = false → exec (.tagReport [reader, id]) s = .next counted) ∧
      (s.inUse (sensorOfReader r) = true → ∀ (read : Option CarrierId) (u : State),
        ((∃ c : CarrierId, id.toNat = c.val ∧ read = some c ∧ u = s) ∨ (id = 0xFF#8 ∧ read = none ∧ u = s) ∨
          (16 ≤ id.toNat ∧ id ≠ 0xFF#8 ∧ read = none ∧ u = counted)) →
        let waiting : State := { u with line := { u.line with slots := tset s.line.slots r (.reportWaiting read 40) } }
        (s.map.state ≠ .valid → ∀ t : State, t.map = s.map → t.deliverRead (sensorOfReader r) read = t) ∧
        (∀ w, tget s.line.slots r = .leadWaiting w → exec (.tagReport [reader, id]) s =
          .next (({ u with line := { u.line with slots := tset s.line.slots r .empty } }).deliverRead (sensorOfReader r) read)) ∧
        (tget s.line.slots r = .empty → exec (.tagReport [reader, id]) s = .next waiting) ∧
        (∀ x w, tget s.line.slots r = .reportWaiting x w → exec (.tagReport [reader, id]) s =
          .next { waiting with line := { waiting.line with stray := min (u.line.stray + 1) 255 } }))

/-- Half a report is discarded with a stray-read count when its second character is missing for 2 character times, when a flagged character
comes, and at a break; after a break no character is taken until the line returns to mark (R23). A window that has run out gives NO_READ
for a LEAD, and discards a report with a stray-read count (R27). A LEAD of a sensor with a reader meets its slot: an EMPTY one becomes
LEAD_WAITING with window 40 and the LEAD is delivered; a LEAD_WAITING one has its window set to 40, and NO_READ is delivered for the
earlier LEAD before the new LEAD; a REPORT_WAITING one becomes EMPTY, and the held read is delivered at once after the LEAD (R25). What
is delivered of a sensor whose events are dropped changes nothing (R13, R20). -/
def Obligations.TagPortFailures : Prop :=
  ∀ (s : State),
    (∀ b, s.line.tagBreak = false → s.line.tagHalf = none →
      let stray : State := { s with line := { s.line with stray := min (s.line.stray + 1) 255 } }
      exec (.tagReportTimeout [b]) s = .next stray ∧ exec (.tagCharacterError [b]) s = .next stray ∧
        exec (.tagPortBreak [b]) s = .next { stray with line := { stray.line with tagBreak := true } } ∧
        exec (.tagCharacterError []) s = .next s) ∧
    (s.line.tagBreak = true → ∀ chars, exec (.tagReport chars) s = .next s) ∧
    exec .tagPortReturnsToMark s = .next { s with line := { s.line with tagBreak := false } } ∧
    (∀ r : ReaderId,
      (tget s.line.slots r = .leadWaiting 0 → exec (.readWindowExpiry r) s =
        .next (({ s with line := { s.line with slots := tset s.line.slots r .empty } }).deliverRead (sensorOfReader r) none)) ∧
      (∀ x, tget s.line.slots r = .reportWaiting x 0 → exec (.readWindowExpiry r) s =
        .next { s with line := { s.line with
          slots := tset s.line.slots r .empty, stray := min (s.line.stray + 1) 255 } })) ∧
    ∀ (x : Sensor) (r : ReaderId), readerOf x = some r →
      ((s.filter x).due = true → s.active x = false →
        let slot : Slot → State := fun y =>
          { (s.accepted x) with line := { (s.accepted x).line with slots := tset s.line.slots r y } }
        (tget s.line.slots r = .empty →
          exec (.sensorLevelAccepted x) s = .next ((slot (.leadWaiting 40)).deliverLead x)) ∧
        (∀ w, tget s.line.slots r = .leadWaiting w →
          exec (.sensorLevelAccepted x) s = .next (((slot (.leadWaiting 40)).deliverRead x none).deliverLead x)) ∧
        (∀ read w, tget s.line.slots r = .reportWaiting read w →
          exec (.sensorLevelAccepted x) s = .next (((slot .empty).deliverLead x).deliverRead x read))) ∧
      (s.map.state ≠ .valid ∨ s.inUse x = false → s.deliverLead x = s ∧ ∀ read, s.deliverRead x read = s)

/-! ## Steps -/

/-- At a step event each pulse of an active output advances by one, stopping at 4095, the count of every stretch and every watch that the
output drives, and no other count; a stretch whose count comes to B, and a watch whose count comes to T, overruns once and stalls its
carrier by its kind, and the stalled count grows by the carriers newly stalled (R46, R47, R49, R105). A jog gives one step: its steps
remaining fall and its steps delivered rise by one (R52, R114). The next interval has the divisor R37 gives with the mode, the jog and
the rates then in force; where an overrun holds the track, the mode is HOLD and a jog alone keeps the generator running (R37, R38); that
the interval which then begins keeps the divisor read before the counting is the model's choice (log entry 9). That a STEP_EVENT which
finds the generator stopped changes nothing is the model's choice (log entry 1), a stopped generator giving no step (R37). The step event
leaves the state with those counts advanced and then each overrun taken in turn, but that a count which reaches Pt has R72 applied to D_k
(R44); the D_k and, in a queue, the Q_s of a carrier that overruns end inactive, with the sweep's hold on D_k apart. That the overruns
are taken in ascending carrier number, each carrier's stretch before its watch, so that their STALL notices and faults come in that
order, is the model's choice (log entry 9). The drive rule of a section sets D_k by R72, with the sweep's hold on it, and that of a
station Q_s by R84, with the survey's hold on it; each writes that latch alone, and `applyAll` gives every latch what these rules give
it. Taking an overrun adds its kind to the carrier's stall, counts a carrier newly stalled, applies the two rules to the carrier's
section and spur, and sends STALL; a carrier newly stalled that brings the count to the stall limit raises STALL_LIMIT with the place of
its stall (R105, R106). -/
def Obligations.EachPulseCounts : Prop :=
  (∀ s : State,
    (s.gen.interval = none → exec .stepEvent s = .next s) ∧
    (s.gen.interval.isSome = true → exec .stepEvent s = .next s.stepPulse.finish ∧
      let passage : CarrierId → Passage := fun c => (s.car c).passage
      let frontPulsed : CarrierId → Bool := fun c => s.stretchLatch s.line.latches (passage c).stretch
      let tailPulsed : CarrierId → Bool := fun c => watchLatch s.line.latches (passage c).watch
      let front : CarrierId → Bool := fun c => frontPulsed c &&
        decide ((passage c).n < 4095 ∧ (passage c).n + 1 = (passage c).budget) && !(passage c).overrun
      let tail : CarrierId → Bool := fun c => tailPulsed c &&
        decide ((passage c).t < 4095 ∧ (passage c).t + 1 = (passage c).trailBudget) && !(passage c).tailOverrun
      let kind : CarrierId → FrontKind := fun c => match (passage c).stretch with
        | .none | .loop _ | .divert _ => .front
        | .launch _ => .launch
        | .dock _ => .dock
      let advanced : CarrierId → Passage := fun c => { (passage c) with
        n := if frontPulsed c then min ((passage c).n + 1) 4095 else (passage c).n
        overrun := (passage c).overrun || front c
        t := if tailPulsed c then min ((passage c).t + 1) 4095 else (passage c).t
        tailOverrun := (passage c).tailOverrun || tail c }
      let jog : Option Jog := s.cars.jog.map fun j =>
        if 0 < j.remaining then { j with remaining := j.remaining - 1, delivered := j.delivered + 1 } else j
      let spurPulsed : StationId → Bool := fun i => tget s.line.latches.q i ||
        match s.cars.jog with
        | some j => j.target == .spur i && decide (0 < j.remaining)
        | none => false
      let counted : State := { s with
        gen := ⟨s.divisor⟩
        track := { s.track with survey := s.track.survey.map fun v =>
          if s.sweeping then { v with
            sweepCount := v.sweepCount - 1
            markers := v.markers.map fun m => { m with count := min (m.count + 1) 4095 } }
          else { v with
            clearing := Vector.ofFn fun i =>
              match tget v.clearing i with
              | .driving n b w => .driving (if spurPulsed i then min (n + 1) b else n) b w
              | .none => .none
              | .found => .found
              | .cleared => .cleared } }
        cars := { s.cars with recs := Vector.ofFn fun c => { (s.car c) with passage := advanced c }, jog := jog } }
      let overruns : List (CarrierId × OverrunKind) := (List.finRange 16).flatMap fun c =>
        (if front c then [(c, .stretch (kind c))] else []) ++ (if tail c then [(c, .tail)] else [])
      let taken : State := overruns.foldl (fun u x => u.takeOverrun x.1 x.2) counted
      let atStop : CarrierId → Prop := fun c => frontPulsed c = true ∧ (passage c).n < 4095 ∧
        (passage c).stopPoint = some ((passage c).n + 1)
      s.stepPulse = { taken with
        disp := s.stepPulse.disp
        line := { taken.line with latches := { taken.line.latches with d := s.stepPulse.line.latches.d } } } ∧
      (∀ k, (∃ c, atStop c ∧ s.occupiedBy c = some k) → tget s.stepPulse.line.latches.d k = s.stepPulse.driveEnabled k) ∧
      (∀ k, (¬ ∃ c, atStop c ∧ s.occupiedBy c = some k) →
        tget s.stepPulse.line.latches.d k = tget taken.line.latches.d k) ∧
      (∀ c, (front c = true ∨ tail c = true) →
        (∀ k, s.occupiedBy c = some k → tget s.stepPulse.line.latches.d k = s.stepPulse.driveEnabled k ∧
          (s.sweeping = false → tget s.stepPulse.line.latches.d k = false)) ∧
        (∀ i, s.spurOf c = some i → c ∈ (s.stn i).queue → tget s.stepPulse.line.latches.q i = false)) ∧
      (∀ c, s.stepPulse.car c = { (s.car c) with
        stall :=
          { stretch := if front c then some (kind c) else (s.car c).stall.stretch
            tail := (s.car c).stall.tail || tail c }
        passage := advanced c }) ∧
      s.stepPulse.cars.stalledCount = s.cars.stalledCount +
        (List.finRange 16).countP (fun c => (s.stepPulse.car c).stalled && !(s.car c).stalled) ∧
      s.stepPulse.cars.jog = jog ∧
      (s.stepPulse.track.mode = s.track.mode → s.stepPulse.gen = ⟨s.divisor⟩) ∧
      (s.stepPulse.track.mode ≠ s.track.mode → s.stepPulse.track.mode = .hold ∧ s.stepPulse.track.faultFlag = true ∧
        (s.cars.jog = none → s.stepPulse.gen = ⟨none⟩) ∧
        (s.cars.jog.isSome = true → s.divisor.isSome = true → s.stepPulse.gen = ⟨s.divisor⟩)) ∧
      s.stepPulse.secs = s.secs ∧ s.stepPulse.stations = s.stations ∧ s.stepPulse.book = s.book)) ∧
  (∀ s : State,
    let steps : Rate → Nat := fun r => 2 ^ r.code * (256 - r.reload)
    s.divisor = match s.track.mode with
      | .run => some (steps s.map.params.runRate)
      | .slow | .survey => some (steps s.map.params.slowRate)
      | .hold | .warmup => if s.cars.jog = none then none else some (steps s.map.params.slowRate)
      | .park => none) ∧
  (∀ (k : SectionId) (s : State),
    s.applyDrive k = { s with line := { s.line with
      latches := { s.line.latches with d := tset s.line.latches.d k (tget (s.applyDrive k).line.latches.d k) } } } ∧
    tget s.applyAll.line.latches.d k = tget (s.applyDrive k).line.latches.d k ∧
    (s.sweeping = true → tget (s.applyDrive k).line.latches.d k = decide (k.val < s.S)) ∧
    (s.sweeping = false → (tget (s.applyDrive k).line.latches.d k = true ↔
      ∃ c, (s.sec k).st = .occupied c ∧ (s.car c).stalled = false ∧
        (s.track.mode = .run ∨ s.track.mode = .slow ∨ s.track.mode = .survey) ∧
        ((∃ w, (s.sec (s.nextSec k)).st = .reserved c w) ∨ (∃ i, (s.sec k).spurPlace = some i) ∨
          ∃ pt, (s.car c).passage.stopPoint = some pt ∧ (s.car c).passage.n < pt)))) ∧
  (∀ (i : StationId) (s : State),
    s.applySpur i = { s with line := { s.line with
      latches := { s.line.latches with q := tset s.line.latches.q i (tget (s.applySpur i).line.latches.q i) } } } ∧
    tget s.applyAll.line.latches.q i = tget (s.applySpur i).line.latches.q i ∧
    (tget (s.applySpur i).line.latches.q i = true ↔
      (s.track.mode = .run ∨ s.track.mode = .slow ∨ s.track.mode = .survey) ∧
      (∀ c ∈ (s.stn i).queue, (s.car c).stalled = false) ∧
      ((s.stn i).launchGranted = true ∨ (∃ c, (s.stn i).entryPending = some c) ∨ (∃ c, (s.stn i).movingUp = some c) ∨
        s.track.mode = .survey ∧ ∃ v n b w, s.track.survey = some v ∧ tget v.clearing i = .driving n b w))) ∧
  ∀ (c : CarrierId) (k : OverrunKind) (s : State),
    let p := (s.car c).passage
    let place : FaultPlace := match k with
      | .stretch _ =>
        match p.stretch with
        | .none => .none
        | .loop j => .sectionAt j
        | .divert i | .launch i | .dock i => .station i
      | .tail =>
        match p.watch with
        | none => .none
        | some (.entry j) => .sectionAt j
        | some (.spur i) => .station i
    ∃ w : State,
      w.car c = { (s.car c) with stall := match k with
        | .stretch f => { (s.car c).stall with stretch := some f }
        | .tail => { (s.car c).stall with tail := true } } ∧
      (∀ d, d ≠ c → w.car d = s.car d) ∧
      w.cars.stalledCount = (if (s.car c).stalled then s.cars.stalledCount else s.cars.stalledCount + 1) ∧
      (∀ j, s.occupiedBy c = some j → tget w.line.latches.d j = w.driveEnabled j) ∧
      (∀ i, s.spurOf c = some i → tget w.line.latches.q i = w.spurEnabled i) ∧
      w.links = s.links.set .service ((s.link .service).notice ⟨.notice .stall, 0#8,
        [BitVec.ofNat 8 c.val,
          match k with
          | .stretch .front => 1#8
          | .tail => 2#8
          | .stretch .launch => 3#8
          | .stretch .dock => 4#8,
          match place with
          | .sectionAt _ => 0#8
          | .station _ => 1#8
          | .none => 0xFF#8,
          match place with
          | .sectionAt j => BitVec.ofNat 8 j.val
          | .station i => BitVec.ofNat 8 (i.val + 1)
          | .none => 0#8] ++
        match k with
        | .stretch _ => byte2 p.n ++ byte2 p.budget
        | .tail => byte2 p.t ++ byte2 p.trailBudget⟩) ∧
      w.cars.jog = s.cars.jog ∧ w.gen = s.gen ∧ w.secs = s.secs ∧ w.stations = s.stations ∧ w.book = s.book ∧
      w.track = s.track ∧ w.map = s.map ∧
      s.takeOverrun c k =
        if (s.car c).stalled = false ∧ s.map.params.stallLimit ≤ s.cars.stalledCount + 1 then
          w.raiseFault .stallLimit place (some c)
        else w

/-- A jog whose last step has been delivered is over: its record is NONE, COMPLETION DONE carries the steps delivered, and the generator
stands as R37 gives (R114). The autopark countdown that has run out parks the track, auto-parked (R161); that auto-parked is written
before the mode changes, so that the MODE notice carries it as yes, is the model's reading, and that a jog which the change ends is told
of after that notice is its choice (log entry 6). JOG_COMPLETE with no jog or with steps remaining, and AUTOPARK_EXPIRY with no countdown
run out, change nothing: that is the model's choice (log entry 2); and so does AUTOPARK_EXPIRY outside RUN and SLOW (log entry 9). -/
def Obligations.JogAndCountdownEnd : Prop :=
  ∀ s : State,
    (∀ j, s.cars.jog = some j → j.remaining = 0 → exec .jogComplete s =
      .next ({ s with cars := { s.cars with jog := none } }.notice .service .completion j.tag
        [0x1B#8, 0#8, BitVec.ofNat 8 j.delivered]).setGen) ∧
    (s.cars.jog = none ∨ (∃ j, s.cars.jog = some j ∧ j.remaining ≠ 0) → exec .jogComplete s = .next s) ∧
    ((s.track.mode = .run ∨ s.track.mode = .slow) → s.track.countdown = some 0 → exec .autoparkExpiry s =
      .next ({ s with track := { s.track with autoParked := true, countdown := none } }.changeMode .park).finish) ∧
    (¬ (s.track.mode = .run ∨ s.track.mode = .slow) ∨ s.track.countdown ≠ some 0 → exec .autoparkExpiry s = .next s)

/-- A warm-up whose count has reached W × 10 with DRIVE_READY active ends in SURVEY, where the sweep begins, if a SURVEY is pending, and
in the speed selector's mode otherwise, a pending RESUME completing DONE; one that has reached 5 × W × 10 with DRIVE_READY inactive
raises DRIVE_FAIL with no place and no carrier (R159). -/
def Obligations.WarmupEnds : Prop :=
  ∀ s : State, s.track.mode = .warmup →
    (10 * s.track.warmW ≤ s.track.warmCount → s.active .driveReady = true →
      (∀ tag, s.track.completion = .survey tag → exec .warmupEnd s = .next s.beginSweep.finish) ∧
      (s.track.completion = .none → exec .warmupEnd s = .next (s.changeMode s.track.speed.mode).finish) ∧
      (∀ tag, s.track.completion = .resume tag → exec .warmupEnd s =
        .next ((({ (s.changeMode s.track.speed.mode) with
          track := { (s.changeMode s.track.speed.mode).track with completion := .none } }).notice .service .completion tag
            [0x12#8, 0#8])).finish)) ∧
    (50 * s.track.warmW ≤ s.track.warmCount → s.active .driveReady = false →
      exec .warmupDriveFail s = .next (s.raiseFault .driveFail .none none).finish ∧
        (s.raiseFault .driveFail .none none).track.mode = .park)

/-- As the sweep begins, the mode is SURVEY and each active entry sensor has its anonymous marker; with more of them than UNKNOWN carriers,
SURVEY_FAIL names the first section without a marker (R169; the limit here, and the section order, are the model's, log entry 9). A step
event counts the sweep down and its markers up; in the clearing a pulse of Q_s advances a DRIVING station's count. In the sweep a LEAD of
E_k moves the oldest marker of section k − 1 that has gone far enough, or makes one, or raises SURVEY_FAIL; its TRAIL sets a trail-seen
flag or is a stray edge (R169); a read meets the awaited marker by R170's table. At the sweep's end an anonymous marker, and then a
section with two, raises SURVEY_FAIL; that the first in section order is named, and of three or more the second oldest, is the model's
choice (log entry 9). Otherwise each marker's carrier (an OUT one too, log entry 9) is RETURNING in its section, bound for the depot of
R103, with the record of R53, overrun at once at B or T (R171); its section is OCCUPIED, the one behind TRAILING while the tail is
pending and no tracked front stands there, the one ahead claimed or granted, and p the number placed (R74); the order of these effects,
where a fault stops what follows, is the model's (log entry 9). The clearing then begins, station by station: at an inactive K_s DRIVING
with count 0 and its budget, at an active one the head named from the examined slot (R172). The head named by R173 is FOUND and docked,
its launch requested, or SURVEY_FAIL is raised; that it joins the queue's tail, where R172 says its head, is the model's reading (log
entry 9). A LEAD of K_s at a DRIVING station awaits the read, which names the head. A count at its budget makes the station CLEARED, even
while a read is awaited (the model's reading, log entry 9), and its drive its owner's again (R172). The read of a provisional carrier, at
E_k or K_s, confirms it, is a misread, renames it, or raises SURVEY_FAIL (R173). -/
def Obligations.SweepAndClearingEnd : Prop :=
  (∀ (s : State) (v : SurveyRec), s.track.survey = some v → s.track.mode ≠ .survey →
    let entries := (List.finRange 32).filter fun k => decide (k.val < s.S) && s.active (.entry k)
    let lengths := ((List.finRange 32).filter fun k => decide (k.val < s.S)).map s.map.sectionLen
    (entries.length ≤ s.unknownCount →
      s.beginSweep.track.mode = .survey ∧
      s.beginSweep.track.survey = some { v with
        phase := .sweep
        sweepCount := lengths.foldl (· + ·) 0 + lengths.foldl max 0
        markers := entries.zipIdx.map fun x => ⟨x.2, x.1, none, s.map.params.carrierLen / 2, false, 1⟩
        nextId := entries.length } ∧
      ∀ k, tget s.beginSweep.line.latches.d k = decide (k.val < s.S)) ∧
    (∀ k, entries[s.unknownCount]? = some k →
      s.beginSweep.track.mode = .hold ∧ s.beginSweep.track.survey = none ∧ s.beginSweep.track.completion = .none ∧
      s.beginSweep.track.faultFlag = true ∧
      (s.track.firstFault = none →
        s.beginSweep.track.firstFault = some ⟨.surveyFail, .sectionAt k, none, s.track.seconds⟩))) ∧
  (∀ (s : State) (v : SurveyRec), s.trackSound → s.track.survey = some v → s.stepPulse.track.mode = s.track.mode →
    (s.sweeping = true → s.stepPulse.track.survey = some { v with
      sweepCount := v.sweepCount - 1
      markers := v.markers.map fun m => { m with count := min (m.count + 1) 4095 } }) ∧
    (s.sweeping = false → ∃ v', s.stepPulse.track.survey = some v' ∧ v' = { v with clearing := v'.clearing } ∧
      ∀ i, (∀ n b w, tget v.clearing i = .driving n b w → tget s.line.latches.q i = true →
          tget v'.clearing i = .driving (min (n + 1) b) b w) ∧
        ((∀ n b w, tget v.clearing i ≠ .driving n b w) → tget v'.clearing i = tget v.clearing i))) ∧
  (∀ (k : SectionId) (s : State) (v : SurveyRec), s.map.state = .valid → k.val < s.S → s.sweeping = true →
    s.track.survey = some v → (s.filter (.entry k)).due = true →
    let accepted := s.accepted (.entry k)
    (s.active (.entry k) = false → tget s.line.slots ⟨k.val, by omega⟩ = .empty →
      let waiting : State := { accepted with line := { accepted.line with
        slots := tset accepted.line.slots ⟨k.val, by omega⟩ (.leadWaiting 40) } }
      let far := v.markers.find? fun m => m.sec == s.prevSec k &&
        decide (s.map.sectionLen (s.prevSec k) - s.map.params.carrierLen / 2 ≤ m.count)
      (∀ m, far = some m → exec (.sensorLevelAccepted (.entry k)) s = .next (waiting.withSurvey { v with
        markers := (v.markers.filter fun x => x.id != m.id) ++ [{ m with sec := k, count := 0, trailSeen := false }]
        awaited := tset v.awaited k (some m.id) }).finish) ∧
      (far = none → v.markers.length < s.unknownCount →
        exec (.sensorLevelAccepted (.entry k)) s = .next (waiting.withSurvey { v with
          markers := v.markers ++ [⟨v.nextId, k, none, 0, false, 0⟩]
          awaited := tset v.awaited k (some v.nextId)
          nextId := v.nextId + 1 }).finish) ∧
      (far = none → s.unknownCount ≤ v.markers.length →
        exec (.sensorLevelAccepted (.entry k)) s = .next (waiting.raiseFault .surveyFail (.sectionAt k) none).finish)) ∧
    (s.active (.entry k) = true →
      let front := v.markers.find? fun m => m.sec == k && !m.trailSeen
      (∀ m, front = some m → exec (.sensorLevelAccepted (.entry k)) s = .next (accepted.withSurvey { v with
        markers := v.markers.map fun x => if x.id = m.id then { x with trailSeen := true } else x }).finish) ∧
      (front = none → exec (.sensorLevelAccepted (.entry k)) s =
        .next { accepted with secs := { s.secs with strayEdges := min (s.secs.strayEdges + 1) 255 } }.finish))) ∧
  (∀ (k : SectionId) (read : Option CarrierId) (s : State) (v : SurveyRec), s.map.state = .valid → k.val < s.S →
    s.sweeping = true → s.track.survey = some v →
    let v' : SurveyRec := { v with awaited := tset v.awaited k none }
    let fail : Option CarrierId → State := fun c => ((s.withSurvey v').raiseFault .surveyFail (.sectionAt k) c).finish
    let marked : Marker → (Marker → Marker) → SurveyRec := fun m f =>
      { v' with markers := v.markers.map fun x => if x.id = m.id then f x else x }
    (tget v.awaited k = none → s.deliverRead (.entry k) read =
      { (s.withSurvey v') with secs := { s.secs with strayEdges := min (s.secs.strayEdges + 1) 255 } }.finish) ∧
    ∀ n m, tget v.awaited k = some n → v.markers.find? (fun x => x.id == n) = some m →
      (m.carrier = none →
        (∀ c, read = some c →
          ((s.car c).state = .unknown → (∀ x ∈ v.markers, x.carrier ≠ some c) → s.deliverRead (.entry k) read =
            (s.withSurvey (marked m fun x => { x with carrier := some c, unread := 0 })).finish) ∧
          (((s.car c).state ≠ .unknown ∨ ∃ x ∈ v.markers, x.carrier = some c) →
            s.deliverRead (.entry k) read = fail (some c))) ∧
        (read = none →
          let unread : State := s.withSurvey (marked m fun x => { x with unread := x.unread + 1 })
          (m.unread < 2 → s.deliverRead (.entry k) read = unread.finish) ∧
          (2 ≤ m.unread →
            s.deliverRead (.entry k) read = (unread.raiseFault .surveyFail (.sectionAt k) none).finish))) ∧
      (∀ c, m.carrier = some c →
        (read = none ∨ read = some c → s.deliverRead (.entry k) read = (s.withSurvey v').finish) ∧
        (∀ d, read = some d → d ≠ c → s.deliverRead (.entry k) read = fail (some d)))) ∧
  (∀ (s : State) (v : SurveyRec), s.track.survey = some v → s.track.mode = .survey → v.phase = .sweep → v.sweepCount = 0 →
    let inSection : SectionId → List Marker := fun k => v.markers.filter fun m => m.sec == k
    (∀ k, (∃ m ∈ inSection k, m.carrier = none) → (∀ j < k, ∀ m ∈ inSection j, m.carrier ≠ none) →
      exec .sweepEnd s = .next (s.raiseFault .surveyFail (.sectionAt k) none).finish) ∧
    (∀ k first second rest, (∀ m ∈ v.markers, m.carrier ≠ none) → inSection k = first :: second :: rest →
      (∀ j < k, (inSection j).length ≤ 1) →
      exec .sweepEnd s = .next (s.raiseFault .surveyFail (.sectionAt k) second.carrier).finish) ∧
    ((∀ m ∈ v.markers, m.carrier ≠ none) → (∀ k, (inSection k).length ≤ 1) →
      exec .sweepEnd s = .next (s.trackAll v).finish ∧
      (∃ u : State, s.trackAll v = (List.finRange 12).foldl (fun x i => x.startClearing i) u ∧
        u.map = s.map ∧ u.line.filters = s.line.filters ∧ u.line.slots = s.line.slots ∧
        (∀ i, (u.stn i).kind = (s.stn i).kind) ∧
        (u.track.survey = none ∨ u.track.survey = some { v with
          phase := .clearing, markers := [], awaited := Vector.replicate 32 none, tracked := v.markers.filterMap (·.carrier) })) ∧
      (∀ v', (s.trackAll v).track.survey = some v' → v'.phase = .clearing ∧ v'.markers = []) ∧
      (∀ ms, (s.placeTracked ms).secs.population = ms.length) ∧
      ∀ m ∈ v.markers, ∀ c, m.carrier = some c →
        let t := s.trackAll v
        let len := s.map.sectionLen m.sec
        let budget : Nat → Nat := fun x => min 4095 ((x * (100 + s.map.params.slack) + 99) / 100)
        (t.car c).state = .returning ∧ (t.car c).order = none ∧ (t.car c).load = 0 ∧
        (t.sec m.sec).st = .occupied c ∧ (t.sec m.sec).tailPending = !m.trailSeen ∧
        (m.trailSeen = false → (∀ x ∈ v.markers, x.sec ≠ s.prevSec m.sec) →
          (∀ x ∈ v.markers, s.prevSec x.sec = s.prevSec m.sec → x = m) →
            (t.sec (s.prevSec m.sec)).st = .trailing c) ∧
        ((∀ x ∈ v.markers, s.nextSec x.sec = s.nextSec m.sec → x = m) →
          (t.sec (s.nextSec m.sec)).loopClaim = some c ∨ (t.sec (s.nextSec m.sec)).st = .reserved c .loop) ∧
        ((∀ i, (s.stn i).launchPending ≠ some c) → (∀ x ∈ v.markers, x.carrier = some c → x = m) →
          (t.car c).place = .loop m.sec ∧ (t.car c).dest = s.chooseDepot (.loop m.sec) ∧
          (t.car c).passage =
            { stretch := .loop m.sec, n := m.count, budget := budget len, stopPoint := some (len - s.map.params.guard)
              overrun := decide (budget len ≤ m.count)
              watch := if m.trailSeen then (s.car c).passage.watch else some (.entry m.sec)
              t := if m.trailSeen then (s.car c).passage.t else m.count
              trailBudget := if m.trailSeen then (s.car c).passage.trailBudget else budget s.map.params.carrierLen
              tailOverrun := (t.car c).passage.tailOverrun } ∧
          (m.trailSeen = false → (t.car c).passage.tailOverrun = decide (budget s.map.params.carrierLen ≤ m.count))))) ∧
  (∀ (i : StationId) (s : State),
    ((s.track.survey = none ∨ (s.stn i).kind = none ∨ (s.stn i).kind = some .depot) → s.startClearing i = s) ∧
    (∀ v, s.track.survey = some v → ((s.stn i).kind = some .stock ∨ (s.stn i).kind = some .counter) →
      (s.active (.dock i) = false → s.startClearing i = (s.withSurvey { v with
        clearing := tset v.clearing i (.driving 0 ((s.map.approach i * (100 + s.map.params.slack) + 99) / 100) false) }).applySpur i) ∧
      (s.active (.dock i) = true →
        (∀ c w, tget s.line.slots ⟨32 + i.val, by omega⟩ = .reportWaiting (some c) w → s.startClearing i =
          State.nameHead { s with line := { s.line with slots := tset s.line.slots ⟨32 + i.val, by omega⟩ .empty } } i (some c)) ∧
        ((∀ c w, tget s.line.slots ⟨32 + i.val, by omega⟩ ≠ .reportWaiting (some c) w) →
          s.startClearing i = s.nameHead i none)))) ∧
  (∀ (i : StationId) (read : Option CarrierId) (s : State) (v : SurveyRec), s.track.survey = some v →
    let fresh : CarrierId → Prop := fun c => (s.car c).state = .unknown ∧ c ∉ v.tracked
    (∀ c, read = some c → ¬ fresh c → s.nameHead i read = s.raiseFault .surveyFail (.station i) (some c)) ∧
    (read = none → (∀ c, ¬ fresh c) → s.nameHead i read = s.raiseFault .surveyFail (.station i) none) ∧
    ∀ c, fresh c → (read = some c ∨ (read = none ∧ ∀ d, d < c → ¬ fresh d)) →
      let u := s.nameHead i read
      (u.car c).state = .returning ∧ (u.car c).order = none ∧ (u.car c).load = 0 ∧
      (u.car c).dest = s.chooseDepot (.docked i) ∧
      (u.stn i).queue = (s.stn i).queue ++ [c] ∧ (u.stn i).awaitedDock = .none ∧
      (((u.stn i).dock = .docked c ∧ (u.car c).place = .docked i) ∨
        ((u.stn i).dock = .launching c ∧ (u.car c).place = .launching i ∧ (u.stn i).launchGranted = true)) ∧
      ((s.stn i).launchPending = none → (u.stn i).launchPending = some c) ∧
      u.track.survey = some { v with
        tracked := v.tracked ++ [c]
        provisional := if read = none then v.provisional ++ [c] else v.provisional
        clearing := tset v.clearing i .found }) ∧
  (∀ (i : StationId) (s : State) (v : SurveyRec) (n b : Nat) (w : Bool), s.track.survey = some v →
    tget v.clearing i = .driving n b w →
    (b ≤ n → exec (.spurCleared i) s = .next ((s.withSurvey { v with clearing := tset v.clearing i .cleared }).applySpur i).finish) ∧
    (s.map.state = .valid → (s.map.kindOf i).isSome = true → (s.filter (.dock i)).due = true → s.active (.dock i) = false →
      tget s.line.slots ⟨32 + i.val, by omega⟩ = .empty →
      exec (.sensorLevelAccepted (.dock i)) s =
        .next ({ (s.accepted (.dock i)) with line := { (s.accepted (.dock i)).line with
          slots := tset s.line.slots ⟨32 + i.val, by omega⟩ (.leadWaiting 40) } }.withSurvey
            { v with clearing := tset v.clearing i (.driving n b true) }).finish) ∧
    (s.map.state = .valid → (s.map.kindOf i).isSome = true → w = true → ∀ read, s.deliverRead (.dock i) read =
      ((s.withSurvey { v with clearing := tset v.clearing i (.driving n b false) }).nameHead i read).finish)) ∧
  (∀ (c : CarrierId) (read : Option CarrierId) (s : State) (v : SurveyRec), s.track.survey = some v → c ∈ v.provisional →
    s.map.state = .valid →
    (∀ k : SectionId, k.val < s.S → s.sweeping = false → (s.sec k).awaited = .carrier c → s.deliverRead (.entry k) read =
      ((s.setSec k { (s.sec k) with awaited := .none }).provisionalRead c (.sectionAt k) read).finish) ∧
    (∀ i, (s.map.kindOf i).isSome = true → (∀ n b, tget v.clearing i ≠ .driving n b true) →
      (s.stn i).awaitedDock = .carrier c → s.deliverRead (.dock i) read =
        ((s.setStn i { (s.stn i) with awaitedDock := .none }).provisionalRead c (.station i) read).finish)) ∧
  ∀ (c : CarrierId) (place : FaultPlace) (s : State) (v : SurveyRec), s.track.survey = some v →
    s.provisionalRead c place (some c) =
      (s.withSurvey { v with provisional := v.provisional.filter (fun x => x ≠ c) }).modCar c (fun r => { r with misreads := 0 }) ∧
    s.provisionalRead c place none = s.modCar c (fun r =>
      { r with misreads := min (r.misreads + 1) 15, suspect := if r.misreads = 3 then true else r.suspect }) ∧
    ∀ d, d ≠ c →
      (¬ ((s.car d).state = .unknown ∧ d ∉ v.tracked) →
        s.provisionalRead c place (some d) = s.raiseFault .surveyFail place (some d)) ∧
      ((s.car d).state = .unknown → d ∉ v.tracked →
        (s.provisionalRead c place (some d)).car c = CarrierRec.reset ∧
        (s.provisionalRead c place (some d)).car d = s.car c ∧
        (∀ e, e ≠ c → e ≠ d → (s.provisionalRead c place (some d)).car e = s.car e) ∧
        (∀ k, ((s.provisionalRead c place (some d)).sec k).st ≠ .occupied c ∧
          ((s.sec k).st = .occupied c → ((s.provisionalRead c place (some d)).sec k).st = .occupied d) ∧
          ((s.sec k).loopClaim = some c → ((s.provisionalRead c place (some d)).sec k).loopClaim = some d)) ∧
        (∀ i, ((s.provisionalRead c place (some d)).stn i).queue = (s.stn i).queue.map (fun x => if x = c then d else x) ∧
          ((s.stn i).dock = .docked c → ((s.provisionalRead c place (some d)).stn i).dock = .docked d) ∧
          ((s.stn i).launchPending = some c → ((s.provisionalRead c place (some d)).stn i).launchPending = some d)) ∧
        (s.provisionalRead c place (some d)).track.survey = some { v with
          tracked := v.tracked.map (fun x => if x = c then d else x)
          provisional := v.provisional.filter (fun x => x ≠ c) })

/-! ## Shared operations -/

/-- The merge arbiter of a FREE section: a loop claim goes first, with a passover counted where an admissible merge claim waits, until two
have been counted; then the merge claim goes. A section that is not FREE, or has no claim to grant, is left (R61, R57). A grant clears
the claim granted (R63). The re-examination of the admission queue when p falls: it takes the stations from the oldest claim, passes over
one whose merge section is not FREE, runs the arbiter of the first whose section is FREE, and goes on so until p has reached A or the
queue is passed (R62, R57). The claim of a carrier that has entered section k. Where k is no junction, or is that of a station the
carrier does not seek, it makes a loop claim on the next section, at which that section's arbiter runs (R58, R59). It seeks the STOCK or
COUNTER station that is its destination, CALLED or DELIVERING, and RETURNING any DEPOT (R79). With room there it is granted a spur place
and makes no claim: inbound rises by one, the diverter is active, section k records the place, its stretch becomes DIVERT with count and
budget kept, it is diverting there, bound for that depot if RETURNING, no candidate any more, and D_k stands by its rule (R80, R42).
Without room it makes its loop claim, and goes around if the station is its destination: its go-around count rises by one, to 7 at most,
and a DELIVERING carrier whose count so comes to the limit sends CIRCLING to its order's origin link (R81); that it does so again at a
limit raised since, and that a count which stands at 7 sends none, is the model's reading (log entry 15). -/
def Obligations.ArbiterBoundsPassovers : Prop :=
  (∀ (k : SectionId) (c : CarrierId) (s : State),
    s.claimLoop k c = (s.setSec k { (s.sec k) with loopClaim := some c }).arbiter k) ∧
  (∀ s : State,
    (s.admissible = true ↔ s.secs.population < match s.map.loop with
      | none => 0
      | some x => if x.limit = 0 then x.count - 2 else x.limit) ∧
    s.dropPopulation = ({ s with secs := { s.secs with population := s.secs.population - 1 } } : State).reexamine ∧
    (s.admissible = false → s.reexamine = s) ∧
    ((∀ i ∈ s.secs.admission, (s.sec (s.mergeSec i)).st ≠ .free) → s.reexamine = s) ∧
    ∀ before i after, s.secs.admission = before ++ i :: after → (∀ x ∈ before, (s.sec (s.mergeSec x)).st ≠ .free) →
      (s.sec (s.mergeSec i)).st = .free → s.admissible = true → (s.sec (s.mergeSec i)).mergeClaim = some i →
        s.reexamine = (s.arbiter (s.mergeSec i)).reexamine) ∧
  (∀ (k : SectionId) (c : CarrierId) (s : State),
    let r := s.car c
    ((∀ i, (s.stn i).kind ≠ none → (s.stn i).junction ≠ k) → s.claimNext c k = s.claimLoop (s.nextSec k) c) ∧
    (∀ i, (s.stn i).kind ≠ none → (s.stn i).junction = k →
      (∀ j, (s.stn j).kind ≠ none → (s.stn j).junction = k → j = i) →
      let seeks : Prop := r.state = .called ∧ (s.stn i).kind = some .stock ∧ r.dest = some i ∨
        r.state = .delivering ∧ (s.stn i).kind = some .counter ∧ r.dest = some i ∨
        r.state = .returning ∧ (s.stn i).kind = some .depot
      (¬ seeks → s.claimNext c k = s.claimLoop (s.nextSec k) c) ∧
      (seeks → (s.stn i).queue.length + (s.stn i).inbound < (s.stn i).capacity →
        ∃ (dk : Bool) (disp : Dispatcher),
          let granted : State := { s with
            stations := tset s.stations i { (s.stn i) with inbound := (s.stn i).inbound + 1 }
            secs := { s.secs with recs := tset s.secs.recs k { (s.sec k) with spurPlace := some i } }
            line := { s.line with latches := { s.line.latches with
              v := tset s.line.latches.v i true, d := tset s.line.latches.d k dk } }
            cars := { s.cars with recs := tset s.cars.recs c { r with
              place := .diverting i
              passage := { r.passage with stretch := .divert i }
              dest := if r.state = .returning then some i else r.dest
              goArounds := if r.state = .returning ∧ r.dest ≠ some i then 0 else r.goArounds } }
            disp := disp }
          s.claimNext c k = granted ∧ granted.applyDrive k = granted ∧ c ∉ disp.candidates) ∧
      (seeks → (s.stn i).capacity ≤ (s.stn i).queue.length + (s.stn i).inbound →
        (r.dest ≠ some i → s.claimNext c k = s.claimLoop (s.nextSec k) c) ∧
        (r.dest = some i →
          let around : State := s.modCar c fun x => { x with goArounds := min (x.goArounds + 1) 7 }
          let circles : Prop := r.state = .delivering ∧ r.goArounds < 7 ∧ r.goArounds + 1 = s.map.params.goAround
          (¬ circles → s.claimNext c k = around.claimLoop (s.nextSec k) c) ∧
          (∀ o, circles → s.orderOfCar c = some o → s.claimNext c k =
            (around.notice o.origin.link .circling 0#8 (byte2 o.ticket ++
              [BitVec.ofNat 8 o.window, BitVec.ofNat 8 (i.val + 1), BitVec.ofNat 8 (r.goArounds + 1)])).claimLoop
                (s.nextSec k) c))))) ∧
  ∀ (k : SectionId) (s : State),
    ((s.sec k).st ≠ .free → s.arbiter k = s) ∧
    ((s.sec k).st = .free →
      ((s.sec k).loopClaim = none → (s.admissible = false ∨ (s.sec k).mergeClaim = none) → s.arbiter k = s) ∧
      (∀ c, (s.sec k).loopClaim = some c → (s.admissible = false ∨ (s.sec k).mergeClaim = none) →
        ((s.arbiter k).sec k).st = .reserved c .loop ∧ ((s.arbiter k).sec k).passovers = (s.sec k).passovers ∧
          ((s.arbiter k).sec k).loopClaim = none) ∧
      (∀ c i, (s.sec k).loopClaim = some c → (s.sec k).mergeClaim = some i → s.admissible = true →
        (s.sec k).passovers < 2 →
        ((s.arbiter k).sec k).st = .reserved c .loop ∧ ((s.arbiter k).sec k).passovers = (s.sec k).passovers + 1 ∧
          ((s.arbiter k).sec k).mergeClaim = some i ∧ ((s.arbiter k).sec k).loopClaim = none) ∧
      (∀ i d, (s.sec k).mergeClaim = some i → s.admissible = true → (s.stn i).launchPending = some d →
        ((s.sec k).loopClaim = none ∨ 2 ≤ (s.sec k).passovers) →
        ((s.arbiter k).sec k).st = .reserved d .merge ∧ ((s.arbiter k).sec k).passovers = 0 ∧
          ((s.arbiter k).sec k).loopClaim = (s.sec k).loopClaim ∧ ((s.arbiter k).sec k).mergeClaim = none ∧
          i ∉ (s.arbiter k).secs.admission ∧
          (s.arbiter k).secs.population = s.secs.population + 1 ∧ ((s.arbiter k).stn i).dock = .launching d ∧
          ((s.arbiter k).stn i).launchGranted = true ∧ tget (s.arbiter k).line.latches.g i = true ∧
          ((s.arbiter k).car d).place = .launching i ∧ ((s.arbiter k).car d).passage.stretch = .launch i))

/-- A dispatch pass. An order's urgency is its class's base, 128 RUSH, 64 STANDARD, 0 BULK, with its age divided by the aging period, at most
255 (R142). The QUEUED orders are ranked by falling urgency, equal ones in book order, none left out (R147). A candidate's distance to an
order is the least loop distance, of R145, to one of its stock stations; where there is a candidate one is chosen, than which none is
nearer, at equal distance a loop candidate before a depot head, and then the lowest number (R148). The stops are the order's stock
stations in ascending distance from it (R149). An order with a line at a closed station is skipped, and one whose first stop's calls are
at its capacity is not assigned (R147, R150). An assignment adds one to the first stop's calls, makes the order ASSIGNED with its
carrier, its stops and index 0, makes the carrier CALLED for the first stop with the order set, takes it from the candidates, leaves the
rest of a loop candidate's record and everything it holds, and requests the launch of a depot head (R150, R152). A round assigns the
first order in rank that can be, which leaves the ranking, and the pass ends with the round that assigns none (R147). A launch is
requested of a carrier docked there alone: with none pending it becomes pending, and the station's merge claim joins the admission queue
and goes to the arbiter while p is below the admission limit; with another's pending it is held (R89, R60). -/
def Obligations.DispatcherOrders : Prop :=
  (∀ s : State,
    (s.ranking.Pairwise fun a b => b.urgency s.map.params.aging ≤ a.urgency s.map.params.aging) ∧
    s.ranking.Perm (s.book.orders.filter fun o => o.state == .queued) ∧
    (∀ n, s.ranking.filter (fun o => o.urgency s.map.params.aging == n) =
      s.book.orders.filter fun o => o.state == .queued && o.urgency s.map.params.aging == n) ∧
    (∀ o cs, cs ≠ [] → (s.choose o cs).isSome = true) ∧
    (∀ o cs c, s.choose o cs = some c → c ∈ cs ∧ ∀ d ∈ cs, s.orderDistance c o ≤ s.orderDistance d o ∧
      (s.orderDistance c o = s.orderDistance d o →
        ((s.car c).place.onLoop = true ∨ (s.car d).place.onLoop = false) ∧
        (cs.Pairwise (fun a b => a < b) → (s.car c).place.onLoop = (s.car d).place.onLoop → c ≤ d))) ∧
    (∀ p o, ((s.stopsFrom p o).Pairwise fun i j => s.distanceTo p i ≤ s.distanceTo p j) ∧
      (s.stopsFrom p o).Perm o.stations)) ∧
  (∀ (s : State) (o : Order) (c : CarrierId) (i : StationId) (aging : Nat),
    o.urgency aging = min 255 ((match o.cls with
      | .rush => 128
      | .standard => 64
      | .bulk => 0) + o.age / aging) ∧
    (i ∈ o.stations ↔ ∃ x ∈ o.lines, x.station = i) ∧ o.stations.Nodup ∧
    (i ∈ o.stations → s.orderDistance c o ≤ s.distanceTo (s.car c).place i ∧
      ∃ j ∈ o.stations, s.orderDistance c o = s.distanceTo (s.car c).place j) ∧
    (∀ k, s.distanceTo (.loop k) i =
      if (s.stn i).junction = k then s.S else ((s.stn i).junction.val + s.S - k.val) % s.S) ∧
    (∀ d, s.distanceTo (.docked d) i =
      if (s.stn i).junction = s.mergeSec d then 0 else ((s.stn i).junction.val + s.S - (s.mergeSec d).val) % s.S)) ∧
  (∀ (s : State) (o : Order),
    ((∃ x ∈ o.lines, (s.stn x.station).closed = true) → s.tryAssign o = none) ∧
    (s.disp.candidates = [] → s.tryAssign o = none) ∧
    ((∀ x ∈ o.lines, (s.stn x.station).closed = false) → ∀ c, s.choose o s.disp.candidates = some c →
      ∀ first rest, s.stopsFrom (s.car c).place o = first :: rest →
        ((s.stn first).capacity ≤ (s.stn first).calls → s.tryAssign o = none) ∧
        ((s.stn first).calls < (s.stn first).capacity →
          let assigned : State := { s with
            stations := tset s.stations first { (s.stn first) with calls := (s.stn first).calls + 1 }
            book := { s.book with orders := s.book.orders.map fun x =>
              if x.ticket = o.ticket then
                { x with carrier := some c, stops := first :: rest, nextStop := 0, state := .assigned }
              else x }
            cars := { s.cars with recs := tset s.cars.recs c { (s.car c) with
              state := .called
              order := some o.ticket
              dest := some first
              goArounds := if (s.car c).dest = some first then (s.car c).goArounds else 0 } }
            disp := { s.disp with candidates := s.disp.candidates.filter fun d => d ≠ c } }
          (∀ d, (s.car c).place = .docked d → s.tryAssign o = some (assigned.requestLaunch d c)) ∧
          ((∀ d, (s.car c).place ≠ .docked d) → s.tryAssign o = some assigned)))) ∧
  (∀ s : State, s.pass = State.rounds s.ranking.length s s.ranking) ∧
  (∀ (s t : State) (n : Nat) (o : Order) (before after : List Order),
    (∀ x ∈ before, s.tryAssign x = none) →
      State.rounds n s before = s ∧
      (s.tryAssign o = some t → State.rounds (n + 1) s (before ++ o :: after) = State.rounds n t (before ++ after))) ∧
  ∀ (s : State) (i : StationId) (c : CarrierId),
    ((s.stn i).dock ≠ .docked c → s.requestLaunch i c = s) ∧
    ((s.stn i).dock = .docked c →
      ((s.stn i).launchPending = some c → s.requestLaunch i c = s) ∧
      (∀ d, (s.stn i).launchPending = some d → d ≠ c →
        s.requestLaunch i c = s.setStn i { (s.stn i) with heldLaunch := some c }) ∧
      ((s.stn i).launchPending = none →
        let pending : State := s.setStn i { (s.stn i) with launchPending := some c, launchGranted := false }
        let m := s.nextSec (s.stn i).junction
        let claimed : State := { pending with secs := { s.secs with
          recs := tset s.secs.recs m { (s.sec m) with mergeClaim := some i }
          admission := s.secs.admission ++ [i] } }
        ((s.sec m).mergeClaim = some i → s.requestLaunch i c = pending) ∧
        ((s.sec m).mergeClaim ≠ some i →
          let limit : Nat := match s.map.loop with
            | none => 0
            | some x => if x.limit = 0 then x.count - 2 else x.limit
          s.requestLaunch i c = if s.secs.population < limit then claimed.arbiter m else claimed)))

/-- What follows every event, the survey's progress, the dispatch pass and the autopark countdown, leaves the map, the framing, the time
base, the lines, class, age, origin and window of every order and its place in the book, the selectors, the faults, the causes and the
second count; and no dispatch opportunity is left over.
The survey's progress: a clearing phase in which every STOCK and COUNTER station is CLEARED becomes the return phase, and a return phase
in which every tracked carrier is IDLE, REMOVING or OUT ends the survey, at once where it already is: the mode is HOLD, COMPLETION DONE
tells the carriers tracked, UNKNOWN and provisional, and neither survey nor completion is pending (R172, R174). Then a dispatch
opportunity gives one pass in RUN and SLOW and is not kept in another mode (R146). Then the autopark condition, RUN or SLOW, a delay Z
above 0, an empty book and every carrier in service IDLE, starts the countdown at Z or leaves the one that runs, and without it the
countdown is stopped (R161). That the three follow every event, in this order, is the model's reading (log entry 9). -/
def Obligations.WhatFollowsAnEventKeeps : Prop :=
  (∀ s : State,
    (s.track.survey = none → s.surveyProgress = s) ∧
    ∀ (v : SurveyRec) (tag : Byte), s.track.survey = some v → s.track.completion = .survey tag →
      let v' : SurveyRec :=
        if v.phase = .clearing ∧ ∀ i, (s.stn i).kind = some .stock ∨ (s.stn i).kind = some .counter → tget v.clearing i = .cleared
        then { v with phase := .returning } else v
      let home : Prop := v'.phase = .returning ∧
        ∀ c ∈ v.tracked, (s.car c).state = .idle ∨ (s.car c).state = .removing ∨ (s.car c).state = .out
      (¬ home → s.surveyProgress = s.withSurvey v') ∧
      (home →
        let held : State := (s.withSurvey v').changeMode .hold
        s.surveyProgress =
          { held with track := { held.track with survey := none, completion := .none } }.notice .service .completion tag
            [0x14#8, 0#8, BitVec.ofNat 8 v.tracked.length,
              BitVec.ofNat 8 ((List.finRange 16).countP fun c => (s.car c).state == CarState.unknown),
              BitVec.ofNat 8 v.provisional.length])) ∧
  (∀ s : State,
    (s.disp.opportunity = true → (s.track.mode = .run ∨ s.track.mode = .slow) →
      s.dispatch = { s.pass with disp := { s.pass.disp with opportunity := false } }) ∧
    (s.disp.opportunity = false ∨ ¬ (s.track.mode = .run ∨ s.track.mode = .slow) →
      s.dispatch = { s with disp := { s.disp with opportunity := false } })) ∧
  (∀ s : State,
    let t : State := s.surveyProgress.dispatch
    let quiet : Prop := (t.track.mode = .run ∨ t.track.mode = .slow) ∧ 0 < t.map.params.autopark ∧ t.book.orders = [] ∧
      ∀ c, (t.car c).state = .out ∨ (t.car c).state = .unknown ∨ (t.car c).state = .idle
    (quiet → s.finish = { t with track := { t.track with
      countdown := some (t.track.countdown.getD t.map.params.autopark) } }) ∧
    (¬ quiet → s.finish = { t with track := { t.track with countdown := none } })) ∧
  ∀ s : State,
    s.finish.map = s.map ∧ s.finish.framing = s.framing ∧ s.finish.time = s.time ∧ s.finish.pending = s.pending ∧
    s.finish.book.counter = s.book.counter ∧
    (s.finish.book.orders.map fun o => (o.ticket, o.lines, o.cls, o.age, o.origin, o.originTag, o.window, o.counter)) =
      (s.book.orders.map fun o => (o.ticket, o.lines, o.cls, o.age, o.origin, o.originTag, o.window, o.counter)) ∧
    s.finish.track.speed = s.track.speed ∧ s.finish.track.settle = s.track.settle ∧
    s.finish.track.faultFlag = s.track.faultFlag ∧ s.finish.track.firstFault = s.track.firstFault ∧
    s.finish.track.laterFaults = s.track.laterFaults ∧ s.finish.track.seconds = s.track.seconds ∧
    s.finish.track.causePower = s.track.causePower ∧ s.finish.track.causePin = s.track.causePin ∧
    s.finish.track.causeService = s.track.causeService ∧ s.finish.disp.opportunity = false

/-- What taking a fault does: the flag, the first-fault record or the later-fault count, the mode, the pending completion and the survey
(R164). FAULT carries the kind, the place, the carrier, the second count and the later-fault count after the fault is counted; where
there is no place, nothing is said of its number but that it is one byte (log entry 4). After it come MODE where the mode changes, a
pending RESUME's COMPLETION, FAILED for DRIVE_FAIL and ABORTED for any other kind, or a survey's, ABORTED with the carriers tracked,
UNKNOWN and provisional (R174). A running jog goes on, but ends where a warm-up that fails makes PARK: ABORTED, or DONE where its last
step had already been delivered. That a jog can stand so, its completion a command of its own, and ends DONE then, is the model's choice
(log entry 2); so is that its COMPLETION follows MODE (log entry 6). -/
def Obligations.FaultHoldsTheTrack : Prop :=
  ∀ (k : FaultKind) (p : FaultPlace) (c : Option CarrierId) (s : State), s.trackSound →
    let mode : Mode := if s.track.mode = .park ∨ (s.track.mode = .warmup ∧ k = .driveFail) then .park else .hold
    let code : Mode → Byte := fun x => match x with
      | .park => 0#8
      | .warmup => 1#8
      | .run => 2#8
      | .slow => 3#8
      | .hold => 4#8
      | .survey => 5#8
    (s.raiseFault k p c).track.faultFlag = true ∧
    (s.track.firstFault = none → (s.raiseFault k p c).track.firstFault = some ⟨k, p, c, s.track.seconds⟩) ∧
    (∀ f, s.track.firstFault = some f → (s.raiseFault k p c).track.firstFault = some f ∧
      (s.raiseFault k p c).track.laterFaults = min (s.track.laterFaults + 1) 255) ∧
    (s.raiseFault k p c).track.mode = mode ∧
    (s.raiseFault k p c).track.completion = .none ∧ (s.raiseFault k p c).track.survey = none ∧
    (s.raiseFault k p c).trackSound ∧ (s.raiseFault k p c).secs = s.secs ∧ (s.raiseFault k p c).stations = s.stations ∧
    (s.raiseFault k p c).book = s.book ∧
    (s.raiseFault k p c).cars = { s.cars with jog := if s.track.mode ≠ .park ∧ mode = .park then none else s.cars.jog } ∧
    ∃ number : Byte,
      let fault : TxMsg := ⟨.notice .fault, 0#8,
        [match k with
          | .unexpectedEntry => 1#8
          | .tagMismatch => 2#8
          | .stallLimit => 3#8
          | .driveFail => 4#8
          | .removedUnexpected => 5#8
          | .surveyFail => 6#8,
          match p with
          | .sectionAt _ => 0#8
          | .station _ => 1#8
          | .none => 0xFF#8,
          match p with
          | .sectionAt j => BitVec.ofNat 8 j.val
          | .station i => BitVec.ofNat 8 (i.val + 1)
          | .none => number,
          match c with
          | some d => BitVec.ofNat 8 d.val
          | none => 0xFF#8] ++ byte2 s.track.seconds ++
        [BitVec.ofNat 8 (if s.track.firstFault = none then s.track.laterFaults else min (s.track.laterFaults + 1) 255)]⟩
      let changed : List TxMsg :=
        if s.track.mode = mode then [] else
          [⟨.notice .mode, 0#8, [code mode, code s.track.mode, if s.track.autoParked then 1#8 else 0#8, 1#8]⟩]
      let jogged : List TxMsg := match s.cars.jog with
        | some j =>
          if s.track.mode ≠ .park ∧ mode = .park then
            [⟨.notice .completion, j.tag, [0x1B#8, if j.remaining = 0 then 0#8 else 5#8, BitVec.ofNat 8 j.delivered]⟩]
          else []
        | none => []
      let completed : List TxMsg := match s.track.completion, s.track.survey with
        | .resume tag, _ => [⟨.notice .completion, tag, [0x12#8, if k = .driveFail then 4#8 else 5#8]⟩]
        | .survey tag, some v => [⟨.notice .completion, tag,
            [0x14#8, 5#8, BitVec.ofNat 8 v.tracked.length,
              BitVec.ofNat 8 ((List.finRange 16).countP fun d => (s.car d).state == CarState.unknown),
              BitVec.ofNat 8 v.provisional.length]⟩]
        | _, _ => []
      (s.raiseFault k p c).links =
        s.links.set .service ((fault :: changed ++ jogged ++ completed).foldl LinkUnit.notice (s.link .service))

end
end

