-- ==== Sys2Proof/Laws/State.lean ====
section
/-! SUPPORT. What each update of the state leaves as it was, one lemma for each field it does not write, true by unfolding one
record; and the reading of a table entry after a write. -/

namespace Sys2Proof.Machine

/-! ## Tables -/

/-- The entry just written is the one read. -/
@[simp] theorem tget_tset {α : Type} {n : Nat} (v : Vector α n) (i : Fin n) (a : α) : tget (tset v i a) i = a := by
  simp [tget, tset]

/-- Every other entry reads as before. -/
theorem tget_tset_ne {α : Type} {n : Nat} (v : Vector α n) {i j : Fin n} (a : α) (h : i ≠ j) :
    tget (tset v i a) j = tget v j := by
  simp [tget, tset, Vector.getElem_set_ne, Fin.val_ne_of_ne h]

/-- The link unit just written is the one read. -/
@[simp] theorem Links.get_set (x : Links) (l : Link) (u : LinkUnit) : (x.set l u).get l = u := by cases l <;> rfl

/-- Every other link unit reads as before. -/
theorem Links.get_set_ne (x : Links) {l m : Link} (u : LinkUnit) (h : l ≠ m) : (x.set l u).get m = x.get m := by
  cases l <;> cases m <;> first | rfl | exact absurd rfl h

/-- Of two writes of one link unit the later stands. -/
@[simp] theorem Links.set_set (x : Links) (l : Link) (u v : LinkUnit) : (x.set l u).set l v = x.set l v := by
  cases l <;> rfl

/-- A link unit written as it stands changes nothing. -/
@[simp] theorem Links.set_get (x : Links) (l : Link) : x.set l (x.get l) = x := by cases l <;> rfl

/-! ## Records of the state -/

/-- A section record just written is the one read. -/
@[simp] theorem State.sec_setSec (s : State) (k : SectionId) (r : SectionRec) : (s.setSec k r).sec k = r := tget_tset ..

/-- A station record just written is the one read. -/
@[simp] theorem State.stn_setStn (s : State) (i : StationId) (r : StationRec) : (s.setStn i r).stn i = r := tget_tset ..

/-- A carrier record just written is the one read. -/
@[simp] theorem State.car_setCar (s : State) (c : CarrierId) (r : CarrierRec) : (s.setCar c r).car c = r := tget_tset ..

/-! ## The candidate list -/

/-- Putting a carrier into the candidate list adds that carrier and no other (R141). -/
@[simp] theorem mem_insertCarrier (c d : CarrierId) (cs : List CarrierId) : d ∈ insertCarrier c cs ↔ d = c ∨ d ∈ cs := by
  induction cs with
  | nil => simp [insertCarrier]
  | cons x xs ih =>
    unfold insertCarrier
    split
    · simp
    · split
      · subst_vars
        simp
      · simp only [List.mem_cons, ih]
        exact or_left_comm

/-- Putting a carrier into an ascending list leaves it ascending (R141). -/
theorem insertCarrier_ascending (c : CarrierId) {cs : List CarrierId} (h : cs.Pairwise (· < ·)) :
    (insertCarrier c cs).Pairwise (· < ·) := by
  induction cs with
  | nil => simp [insertCarrier]
  | cons x xs ih =>
    have hx := List.pairwise_cons.mp h
    unfold insertCarrier
    split
    · next hc =>
      exact List.pairwise_cons.mpr ⟨fun d hd => by
        rcases List.mem_cons.mp hd with rfl | hd
        · exact hc
        · exact Nat.lt_trans hc (hx.1 d hd), h⟩
    · split
      · exact h
      · next h1 h2 =>
        exact List.pairwise_cons.mpr ⟨fun d hd => by
          rcases (mem_insertCarrier c d xs).mp hd with rfl | hd
          · exact Nat.lt_of_le_of_ne (Nat.not_lt.mp h1) fun e => h2 (Fin.ext e.symm)
          · exact hx.1 d hd, ih hx.2⟩

/-- A carrier record written leaves an ascending candidate list ascending (R141). -/
theorem State.setCar_candidates_ascending {s : State} (c : CarrierId) (r : CarrierRec) (h : s.disp.candidates.Pairwise (· < ·)) :
    (s.setCar c r).disp.candidates.Pairwise (· < ·) := by
  show (if candidateRec s r then insertCarrier c s.disp.candidates else s.disp.candidates.filter (· != c)).Pairwise (· < ·)
  split
  · exact insertCarrier_ascending c h
  · exact h.filter _

/-! ## Link units -/

/-- A link unit just changed is the one read. -/
@[simp] theorem State.link_modLink (s : State) (l : Link) (f : LinkUnit → LinkUnit) :
    (s.modLink l f).link l = f (s.link l) := Links.get_set ..

/-! ## Fields an update does not write -/

section Frames

variable (s : State)

@[simp] theorem State.setSec_pending (k : SectionId) (r : SectionRec) : (s.setSec k r).pending = s.pending := rfl
@[simp] theorem State.setSec_freeCount (k : SectionId) (r : SectionRec) : (s.setSec k r).freeCount = s.freeCount := rfl
@[simp] theorem State.setSec_framing (k : SectionId) (r : SectionRec) : (s.setSec k r).framing = s.framing := rfl
@[simp] theorem State.setSec_map (k : SectionId) (r : SectionRec) : (s.setSec k r).map = s.map := rfl
@[simp] theorem State.setSec_line (k : SectionId) (r : SectionRec) : (s.setSec k r).line = s.line := rfl
@[simp] theorem State.setSec_gen (k : SectionId) (r : SectionRec) : (s.setSec k r).gen = s.gen := rfl
@[simp] theorem State.setSec_time (k : SectionId) (r : SectionRec) : (s.setSec k r).time = s.time := rfl
@[simp] theorem State.setSec_stations (k : SectionId) (r : SectionRec) : (s.setSec k r).stations = s.stations := rfl
@[simp] theorem State.setSec_cars (k : SectionId) (r : SectionRec) : (s.setSec k r).cars = s.cars := rfl
@[simp] theorem State.setSec_book (k : SectionId) (r : SectionRec) : (s.setSec k r).book = s.book := rfl
@[simp] theorem State.setSec_disp (k : SectionId) (r : SectionRec) : (s.setSec k r).disp = s.disp := rfl
@[simp] theorem State.setSec_track (k : SectionId) (r : SectionRec) : (s.setSec k r).track = s.track := rfl
@[simp] theorem State.setSec_links (k : SectionId) (r : SectionRec) : (s.setSec k r).links = s.links := rfl

@[simp] theorem State.modSec_pending (k : SectionId) (f : SectionRec → SectionRec) : (s.modSec k f).pending = s.pending := rfl
@[simp] theorem State.modSec_freeCount (k : SectionId) (f : SectionRec → SectionRec) :
    (s.modSec k f).freeCount = s.freeCount := rfl
@[simp] theorem State.modSec_framing (k : SectionId) (f : SectionRec → SectionRec) : (s.modSec k f).framing = s.framing := rfl
@[simp] theorem State.modSec_map (k : SectionId) (f : SectionRec → SectionRec) : (s.modSec k f).map = s.map := rfl
@[simp] theorem State.modSec_line (k : SectionId) (f : SectionRec → SectionRec) : (s.modSec k f).line = s.line := rfl
@[simp] theorem State.modSec_gen (k : SectionId) (f : SectionRec → SectionRec) : (s.modSec k f).gen = s.gen := rfl
@[simp] theorem State.modSec_time (k : SectionId) (f : SectionRec → SectionRec) : (s.modSec k f).time = s.time := rfl
@[simp] theorem State.modSec_stations (k : SectionId) (f : SectionRec → SectionRec) :
    (s.modSec k f).stations = s.stations := rfl
@[simp] theorem State.modSec_cars (k : SectionId) (f : SectionRec → SectionRec) : (s.modSec k f).cars = s.cars := rfl
@[simp] theorem State.modSec_book (k : SectionId) (f : SectionRec → SectionRec) : (s.modSec k f).book = s.book := rfl
@[simp] theorem State.modSec_disp (k : SectionId) (f : SectionRec → SectionRec) : (s.modSec k f).disp = s.disp := rfl
@[simp] theorem State.modSec_track (k : SectionId) (f : SectionRec → SectionRec) : (s.modSec k f).track = s.track := rfl
@[simp] theorem State.modSec_links (k : SectionId) (f : SectionRec → SectionRec) : (s.modSec k f).links = s.links := rfl

@[simp] theorem State.setStn_pending (i : StationId) (r : StationRec) : (s.setStn i r).pending = s.pending := rfl
@[simp] theorem State.setStn_freeCount (i : StationId) (r : StationRec) : (s.setStn i r).freeCount = s.freeCount := rfl
@[simp] theorem State.setStn_framing (i : StationId) (r : StationRec) : (s.setStn i r).framing = s.framing := rfl
@[simp] theorem State.setStn_map (i : StationId) (r : StationRec) : (s.setStn i r).map = s.map := rfl
@[simp] theorem State.setStn_line (i : StationId) (r : StationRec) : (s.setStn i r).line = s.line := rfl
@[simp] theorem State.setStn_gen (i : StationId) (r : StationRec) : (s.setStn i r).gen = s.gen := rfl
@[simp] theorem State.setStn_time (i : StationId) (r : StationRec) : (s.setStn i r).time = s.time := rfl
@[simp] theorem State.setStn_secs (i : StationId) (r : StationRec) : (s.setStn i r).secs = s.secs := rfl
@[simp] theorem State.setStn_cars (i : StationId) (r : StationRec) : (s.setStn i r).cars = s.cars := rfl
@[simp] theorem State.setStn_book (i : StationId) (r : StationRec) : (s.setStn i r).book = s.book := rfl
@[simp] theorem State.setStn_disp (i : StationId) (r : StationRec) : (s.setStn i r).disp = s.disp := rfl
@[simp] theorem State.setStn_track (i : StationId) (r : StationRec) : (s.setStn i r).track = s.track := rfl
@[simp] theorem State.setStn_links (i : StationId) (r : StationRec) : (s.setStn i r).links = s.links := rfl

@[simp] theorem State.modStn_pending (i : StationId) (f : StationRec → StationRec) : (s.modStn i f).pending = s.pending := rfl
@[simp] theorem State.modStn_freeCount (i : StationId) (f : StationRec → StationRec) :
    (s.modStn i f).freeCount = s.freeCount := rfl
@[simp] theorem State.modStn_framing (i : StationId) (f : StationRec → StationRec) : (s.modStn i f).framing = s.framing := rfl
@[simp] theorem State.modStn_map (i : StationId) (f : StationRec → StationRec) : (s.modStn i f).map = s.map := rfl
@[simp] theorem State.modStn_line (i : StationId) (f : StationRec → StationRec) : (s.modStn i f).line = s.line := rfl
@[simp] theorem State.modStn_gen (i : StationId) (f : StationRec → StationRec) : (s.modStn i f).gen = s.gen := rfl
@[simp] theorem State.modStn_time (i : StationId) (f : StationRec → StationRec) : (s.modStn i f).time = s.time := rfl
@[simp] theorem State.modStn_secs (i : StationId) (f : StationRec → StationRec) : (s.modStn i f).secs = s.secs := rfl
@[simp] theorem State.modStn_cars (i : StationId) (f : StationRec → StationRec) : (s.modStn i f).cars = s.cars := rfl
@[simp] theorem State.modStn_book (i : StationId) (f : StationRec → StationRec) : (s.modStn i f).book = s.book := rfl
@[simp] theorem State.modStn_disp (i : StationId) (f : StationRec → StationRec) : (s.modStn i f).disp = s.disp := rfl
@[simp] theorem State.modStn_track (i : StationId) (f : StationRec → StationRec) : (s.modStn i f).track = s.track := rfl
@[simp] theorem State.modStn_links (i : StationId) (f : StationRec → StationRec) : (s.modStn i f).links = s.links := rfl

@[simp] theorem State.modLink_pending (l : Link) (f : LinkUnit → LinkUnit) : (s.modLink l f).pending = s.pending := rfl
@[simp] theorem State.modLink_freeCount (l : Link) (f : LinkUnit → LinkUnit) : (s.modLink l f).freeCount = s.freeCount := rfl
@[simp] theorem State.modLink_framing (l : Link) (f : LinkUnit → LinkUnit) : (s.modLink l f).framing = s.framing := rfl
@[simp] theorem State.modLink_map (l : Link) (f : LinkUnit → LinkUnit) : (s.modLink l f).map = s.map := rfl
@[simp] theorem State.modLink_line (l : Link) (f : LinkUnit → LinkUnit) : (s.modLink l f).line = s.line := rfl
@[simp] theorem State.modLink_gen (l : Link) (f : LinkUnit → LinkUnit) : (s.modLink l f).gen = s.gen := rfl
@[simp] theorem State.modLink_time (l : Link) (f : LinkUnit → LinkUnit) : (s.modLink l f).time = s.time := rfl
@[simp] theorem State.modLink_secs (l : Link) (f : LinkUnit → LinkUnit) : (s.modLink l f).secs = s.secs := rfl
@[simp] theorem State.modLink_stations (l : Link) (f : LinkUnit → LinkUnit) : (s.modLink l f).stations = s.stations := rfl
@[simp] theorem State.modLink_cars (l : Link) (f : LinkUnit → LinkUnit) : (s.modLink l f).cars = s.cars := rfl
@[simp] theorem State.modLink_book (l : Link) (f : LinkUnit → LinkUnit) : (s.modLink l f).book = s.book := rfl
@[simp] theorem State.modLink_disp (l : Link) (f : LinkUnit → LinkUnit) : (s.modLink l f).disp = s.disp := rfl
@[simp] theorem State.modLink_track (l : Link) (f : LinkUnit → LinkUnit) : (s.modLink l f).track = s.track := rfl

@[simp] theorem State.modTrack_pending (f : TrackControl → TrackControl) : (s.modTrack f).pending = s.pending := rfl
@[simp] theorem State.modTrack_freeCount (f : TrackControl → TrackControl) : (s.modTrack f).freeCount = s.freeCount := rfl
@[simp] theorem State.modTrack_framing (f : TrackControl → TrackControl) : (s.modTrack f).framing = s.framing := rfl
@[simp] theorem State.modTrack_map (f : TrackControl → TrackControl) : (s.modTrack f).map = s.map := rfl
@[simp] theorem State.modTrack_line (f : TrackControl → TrackControl) : (s.modTrack f).line = s.line := rfl
@[simp] theorem State.modTrack_gen (f : TrackControl → TrackControl) : (s.modTrack f).gen = s.gen := rfl
@[simp] theorem State.modTrack_time (f : TrackControl → TrackControl) : (s.modTrack f).time = s.time := rfl
@[simp] theorem State.modTrack_secs (f : TrackControl → TrackControl) : (s.modTrack f).secs = s.secs := rfl
@[simp] theorem State.modTrack_stations (f : TrackControl → TrackControl) : (s.modTrack f).stations = s.stations := rfl
@[simp] theorem State.modTrack_cars (f : TrackControl → TrackControl) : (s.modTrack f).cars = s.cars := rfl
@[simp] theorem State.modTrack_book (f : TrackControl → TrackControl) : (s.modTrack f).book = s.book := rfl
@[simp] theorem State.modTrack_disp (f : TrackControl → TrackControl) : (s.modTrack f).disp = s.disp := rfl
@[simp] theorem State.modTrack_links (f : TrackControl → TrackControl) : (s.modTrack f).links = s.links := rfl

@[simp] theorem State.modLatches_pending (f : Latches → Latches) : (s.modLatches f).pending = s.pending := rfl
@[simp] theorem State.modLatches_freeCount (f : Latches → Latches) : (s.modLatches f).freeCount = s.freeCount := rfl
@[simp] theorem State.modLatches_framing (f : Latches → Latches) : (s.modLatches f).framing = s.framing := rfl
@[simp] theorem State.modLatches_map (f : Latches → Latches) : (s.modLatches f).map = s.map := rfl
@[simp] theorem State.modLatches_gen (f : Latches → Latches) : (s.modLatches f).gen = s.gen := rfl
@[simp] theorem State.modLatches_time (f : Latches → Latches) : (s.modLatches f).time = s.time := rfl
@[simp] theorem State.modLatches_secs (f : Latches → Latches) : (s.modLatches f).secs = s.secs := rfl
@[simp] theorem State.modLatches_stations (f : Latches → Latches) : (s.modLatches f).stations = s.stations := rfl
@[simp] theorem State.modLatches_cars (f : Latches → Latches) : (s.modLatches f).cars = s.cars := rfl
@[simp] theorem State.modLatches_book (f : Latches → Latches) : (s.modLatches f).book = s.book := rfl
@[simp] theorem State.modLatches_disp (f : Latches → Latches) : (s.modLatches f).disp = s.disp := rfl
@[simp] theorem State.modLatches_track (f : Latches → Latches) : (s.modLatches f).track = s.track := rfl
@[simp] theorem State.modLatches_links (f : Latches → Latches) : (s.modLatches f).links = s.links := rfl

@[simp] theorem State.countStrayEdge_pending : (s.countStrayEdge).pending = s.pending := rfl
@[simp] theorem State.countStrayEdge_freeCount : (s.countStrayEdge).freeCount = s.freeCount := rfl
@[simp] theorem State.countStrayEdge_framing : (s.countStrayEdge).framing = s.framing := rfl
@[simp] theorem State.countStrayEdge_map : (s.countStrayEdge).map = s.map := rfl
@[simp] theorem State.countStrayEdge_line : (s.countStrayEdge).line = s.line := rfl
@[simp] theorem State.countStrayEdge_gen : (s.countStrayEdge).gen = s.gen := rfl
@[simp] theorem State.countStrayEdge_time : (s.countStrayEdge).time = s.time := rfl
@[simp] theorem State.countStrayEdge_stations : (s.countStrayEdge).stations = s.stations := rfl
@[simp] theorem State.countStrayEdge_cars : (s.countStrayEdge).cars = s.cars := rfl
@[simp] theorem State.countStrayEdge_book : (s.countStrayEdge).book = s.book := rfl
@[simp] theorem State.countStrayEdge_disp : (s.countStrayEdge).disp = s.disp := rfl
@[simp] theorem State.countStrayEdge_track : (s.countStrayEdge).track = s.track := rfl
@[simp] theorem State.countStrayEdge_links : (s.countStrayEdge).links = s.links := rfl

@[simp] theorem State.countStrayRead_pending : (s.countStrayRead).pending = s.pending := rfl
@[simp] theorem State.countStrayRead_freeCount : (s.countStrayRead).freeCount = s.freeCount := rfl
@[simp] theorem State.countStrayRead_framing : (s.countStrayRead).framing = s.framing := rfl
@[simp] theorem State.countStrayRead_map : (s.countStrayRead).map = s.map := rfl
@[simp] theorem State.countStrayRead_gen : (s.countStrayRead).gen = s.gen := rfl
@[simp] theorem State.countStrayRead_time : (s.countStrayRead).time = s.time := rfl
@[simp] theorem State.countStrayRead_secs : (s.countStrayRead).secs = s.secs := rfl
@[simp] theorem State.countStrayRead_stations : (s.countStrayRead).stations = s.stations := rfl
@[simp] theorem State.countStrayRead_cars : (s.countStrayRead).cars = s.cars := rfl
@[simp] theorem State.countStrayRead_book : (s.countStrayRead).book = s.book := rfl
@[simp] theorem State.countStrayRead_disp : (s.countStrayRead).disp = s.disp := rfl
@[simp] theorem State.countStrayRead_track : (s.countStrayRead).track = s.track := rfl
@[simp] theorem State.countStrayRead_links : (s.countStrayRead).links = s.links := rfl

@[simp] theorem State.notice_pending (l : Link) (k : NoticeKind) (tag : Byte) (body : List Byte) :
    (s.notice l k tag body).pending = s.pending := rfl
@[simp] theorem State.notice_freeCount (l : Link) (k : NoticeKind) (tag : Byte) (body : List Byte) :
    (s.notice l k tag body).freeCount = s.freeCount := rfl
@[simp] theorem State.notice_framing (l : Link) (k : NoticeKind) (tag : Byte) (body : List Byte) :
    (s.notice l k tag body).framing = s.framing := rfl
@[simp] theorem State.notice_map (l : Link) (k : NoticeKind) (tag : Byte) (body : List Byte) :
    (s.notice l k tag body).map = s.map := rfl
@[simp] theorem State.notice_line (l : Link) (k : NoticeKind) (tag : Byte) (body : List Byte) :
    (s.notice l k tag body).line = s.line := rfl
@[simp] theorem State.notice_gen (l : Link) (k : NoticeKind) (tag : Byte) (body : List Byte) :
    (s.notice l k tag body).gen = s.gen := rfl
@[simp] theorem State.notice_time (l : Link) (k : NoticeKind) (tag : Byte) (body : List Byte) :
    (s.notice l k tag body).time = s.time := rfl
@[simp] theorem State.notice_secs (l : Link) (k : NoticeKind) (tag : Byte) (body : List Byte) :
    (s.notice l k tag body).secs = s.secs := rfl
@[simp] theorem State.notice_stations (l : Link) (k : NoticeKind) (tag : Byte) (body : List Byte) :
    (s.notice l k tag body).stations = s.stations := rfl
@[simp] theorem State.notice_cars (l : Link) (k : NoticeKind) (tag : Byte) (body : List Byte) :
    (s.notice l k tag body).cars = s.cars := rfl
@[simp] theorem State.notice_book (l : Link) (k : NoticeKind) (tag : Byte) (body : List Byte) :
    (s.notice l k tag body).book = s.book := rfl
@[simp] theorem State.notice_disp (l : Link) (k : NoticeKind) (tag : Byte) (body : List Byte) :
    (s.notice l k tag body).disp = s.disp := rfl
@[simp] theorem State.notice_track (l : Link) (k : NoticeKind) (tag : Byte) (body : List Byte) :
    (s.notice l k tag body).track = s.track := rfl

@[simp] theorem State.answer_pending (r : Req) (k : AnswerKind) (body : List Byte) :
    (s.answer r k body).pending = s.pending := rfl
@[simp] theorem State.answer_freeCount (r : Req) (k : AnswerKind) (body : List Byte) :
    (s.answer r k body).freeCount = s.freeCount := rfl
@[simp] theorem State.answer_framing (r : Req) (k : AnswerKind) (body : List Byte) :
    (s.answer r k body).framing = s.framing := rfl
@[simp] theorem State.answer_map (r : Req) (k : AnswerKind) (body : List Byte) : (s.answer r k body).map = s.map := rfl
@[simp] theorem State.answer_line (r : Req) (k : AnswerKind) (body : List Byte) : (s.answer r k body).line = s.line := rfl
@[simp] theorem State.answer_gen (r : Req) (k : AnswerKind) (body : List Byte) : (s.answer r k body).gen = s.gen := rfl
@[simp] theorem State.answer_time (r : Req) (k : AnswerKind) (body : List Byte) : (s.answer r k body).time = s.time := rfl
@[simp] theorem State.answer_secs (r : Req) (k : AnswerKind) (body : List Byte) : (s.answer r k body).secs = s.secs := rfl
@[simp] theorem State.answer_stations (r : Req) (k : AnswerKind) (body : List Byte) :
    (s.answer r k body).stations = s.stations := rfl
@[simp] theorem State.answer_cars (r : Req) (k : AnswerKind) (body : List Byte) : (s.answer r k body).cars = s.cars := rfl
@[simp] theorem State.answer_book (r : Req) (k : AnswerKind) (body : List Byte) : (s.answer r k body).book = s.book := rfl
@[simp] theorem State.answer_disp (r : Req) (k : AnswerKind) (body : List Byte) : (s.answer r k body).disp = s.disp := rfl
@[simp] theorem State.answer_track (r : Req) (k : AnswerKind) (body : List Byte) : (s.answer r k body).track = s.track := rfl

@[simp] theorem State.useFree_pending (n : Nat) : (s.useFree n).pending = s.pending := rfl
@[simp] theorem State.useFree_framing (n : Nat) : (s.useFree n).framing = s.framing := rfl
@[simp] theorem State.useFree_map (n : Nat) : (s.useFree n).map = s.map := rfl
@[simp] theorem State.useFree_line (n : Nat) : (s.useFree n).line = s.line := rfl
@[simp] theorem State.useFree_gen (n : Nat) : (s.useFree n).gen = s.gen := rfl
@[simp] theorem State.useFree_time (n : Nat) : (s.useFree n).time = s.time := rfl
@[simp] theorem State.useFree_secs (n : Nat) : (s.useFree n).secs = s.secs := rfl
@[simp] theorem State.useFree_stations (n : Nat) : (s.useFree n).stations = s.stations := rfl
@[simp] theorem State.useFree_cars (n : Nat) : (s.useFree n).cars = s.cars := rfl
@[simp] theorem State.useFree_book (n : Nat) : (s.useFree n).book = s.book := rfl
@[simp] theorem State.useFree_disp (n : Nat) : (s.useFree n).disp = s.disp := rfl
@[simp] theorem State.useFree_track (n : Nat) : (s.useFree n).track = s.track := rfl
@[simp] theorem State.useFree_links (n : Nat) : (s.useFree n).links = s.links := rfl

@[simp] theorem State.setCar_pending (c : CarrierId) (r : CarrierRec) : (s.setCar c r).pending = s.pending := rfl
@[simp] theorem State.setCar_freeCount (c : CarrierId) (r : CarrierRec) : (s.setCar c r).freeCount = s.freeCount := rfl
@[simp] theorem State.setCar_framing (c : CarrierId) (r : CarrierRec) : (s.setCar c r).framing = s.framing := rfl
@[simp] theorem State.setCar_map (c : CarrierId) (r : CarrierRec) : (s.setCar c r).map = s.map := rfl
@[simp] theorem State.setCar_line (c : CarrierId) (r : CarrierRec) : (s.setCar c r).line = s.line := rfl
@[simp] theorem State.setCar_gen (c : CarrierId) (r : CarrierRec) : (s.setCar c r).gen = s.gen := rfl
@[simp] theorem State.setCar_time (c : CarrierId) (r : CarrierRec) : (s.setCar c r).time = s.time := rfl
@[simp] theorem State.setCar_secs (c : CarrierId) (r : CarrierRec) : (s.setCar c r).secs = s.secs := rfl
@[simp] theorem State.setCar_stations (c : CarrierId) (r : CarrierRec) : (s.setCar c r).stations = s.stations := rfl
@[simp] theorem State.setCar_book (c : CarrierId) (r : CarrierRec) : (s.setCar c r).book = s.book := rfl
@[simp] theorem State.setCar_track (c : CarrierId) (r : CarrierRec) : (s.setCar c r).track = s.track := rfl
@[simp] theorem State.setCar_links (c : CarrierId) (r : CarrierRec) : (s.setCar c r).links = s.links := rfl

@[simp] theorem State.modCar_pending (c : CarrierId) (f : CarrierRec → CarrierRec) : (s.modCar c f).pending = s.pending := rfl
@[simp] theorem State.modCar_freeCount (c : CarrierId) (f : CarrierRec → CarrierRec) :
    (s.modCar c f).freeCount = s.freeCount := rfl
@[simp] theorem State.modCar_framing (c : CarrierId) (f : CarrierRec → CarrierRec) : (s.modCar c f).framing = s.framing := rfl
@[simp] theorem State.modCar_map (c : CarrierId) (f : CarrierRec → CarrierRec) : (s.modCar c f).map = s.map := rfl
@[simp] theorem State.modCar_line (c : CarrierId) (f : CarrierRec → CarrierRec) : (s.modCar c f).line = s.line := rfl
@[simp] theorem State.modCar_gen (c : CarrierId) (f : CarrierRec → CarrierRec) : (s.modCar c f).gen = s.gen := rfl
@[simp] theorem State.modCar_time (c : CarrierId) (f : CarrierRec → CarrierRec) : (s.modCar c f).time = s.time := rfl
@[simp] theorem State.modCar_secs (c : CarrierId) (f : CarrierRec → CarrierRec) : (s.modCar c f).secs = s.secs := rfl
@[simp] theorem State.modCar_stations (c : CarrierId) (f : CarrierRec → CarrierRec) :
    (s.modCar c f).stations = s.stations := rfl
@[simp] theorem State.modCar_book (c : CarrierId) (f : CarrierRec → CarrierRec) : (s.modCar c f).book = s.book := rfl
@[simp] theorem State.modCar_track (c : CarrierId) (f : CarrierRec → CarrierRec) : (s.modCar c f).track = s.track := rfl
@[simp] theorem State.modCar_links (c : CarrierId) (f : CarrierRec → CarrierRec) : (s.modCar c f).links = s.links := rfl

@[simp] theorem State.raiseOpportunity_pending : (s.raiseOpportunity).pending = s.pending := rfl
@[simp] theorem State.raiseOpportunity_freeCount : (s.raiseOpportunity).freeCount = s.freeCount := rfl
@[simp] theorem State.raiseOpportunity_framing : (s.raiseOpportunity).framing = s.framing := rfl
@[simp] theorem State.raiseOpportunity_map : (s.raiseOpportunity).map = s.map := rfl
@[simp] theorem State.raiseOpportunity_line : (s.raiseOpportunity).line = s.line := rfl
@[simp] theorem State.raiseOpportunity_gen : (s.raiseOpportunity).gen = s.gen := rfl
@[simp] theorem State.raiseOpportunity_time : (s.raiseOpportunity).time = s.time := rfl
@[simp] theorem State.raiseOpportunity_secs : (s.raiseOpportunity).secs = s.secs := rfl
@[simp] theorem State.raiseOpportunity_stations : (s.raiseOpportunity).stations = s.stations := rfl
@[simp] theorem State.raiseOpportunity_cars : (s.raiseOpportunity).cars = s.cars := rfl
@[simp] theorem State.raiseOpportunity_book : (s.raiseOpportunity).book = s.book := rfl
@[simp] theorem State.raiseOpportunity_track : (s.raiseOpportunity).track = s.track := rfl
@[simp] theorem State.raiseOpportunity_links : (s.raiseOpportunity).links = s.links := rfl

@[simp] theorem State.setStalledCount_pending (n : Nat) : (s.setStalledCount n).pending = s.pending := rfl
@[simp] theorem State.setStalledCount_freeCount (n : Nat) : (s.setStalledCount n).freeCount = s.freeCount := rfl
@[simp] theorem State.setStalledCount_framing (n : Nat) : (s.setStalledCount n).framing = s.framing := rfl
@[simp] theorem State.setStalledCount_map (n : Nat) : (s.setStalledCount n).map = s.map := rfl
@[simp] theorem State.setStalledCount_line (n : Nat) : (s.setStalledCount n).line = s.line := rfl
@[simp] theorem State.setStalledCount_gen (n : Nat) : (s.setStalledCount n).gen = s.gen := rfl
@[simp] theorem State.setStalledCount_time (n : Nat) : (s.setStalledCount n).time = s.time := rfl
@[simp] theorem State.setStalledCount_secs (n : Nat) : (s.setStalledCount n).secs = s.secs := rfl
@[simp] theorem State.setStalledCount_stations (n : Nat) : (s.setStalledCount n).stations = s.stations := rfl
@[simp] theorem State.setStalledCount_book (n : Nat) : (s.setStalledCount n).book = s.book := rfl
@[simp] theorem State.setStalledCount_disp (n : Nat) : (s.setStalledCount n).disp = s.disp := rfl
@[simp] theorem State.setStalledCount_track (n : Nat) : (s.setStalledCount n).track = s.track := rfl
@[simp] theorem State.setStalledCount_links (n : Nat) : (s.setStalledCount n).links = s.links := rfl

@[simp] theorem State.setJog_pending (j : Option Jog) : (s.setJog j).pending = s.pending := rfl
@[simp] theorem State.setJog_freeCount (j : Option Jog) : (s.setJog j).freeCount = s.freeCount := rfl
@[simp] theorem State.setJog_framing (j : Option Jog) : (s.setJog j).framing = s.framing := rfl
@[simp] theorem State.setJog_map (j : Option Jog) : (s.setJog j).map = s.map := rfl
@[simp] theorem State.setJog_line (j : Option Jog) : (s.setJog j).line = s.line := rfl
@[simp] theorem State.setJog_gen (j : Option Jog) : (s.setJog j).gen = s.gen := rfl
@[simp] theorem State.setJog_time (j : Option Jog) : (s.setJog j).time = s.time := rfl
@[simp] theorem State.setJog_secs (j : Option Jog) : (s.setJog j).secs = s.secs := rfl
@[simp] theorem State.setJog_stations (j : Option Jog) : (s.setJog j).stations = s.stations := rfl
@[simp] theorem State.setJog_book (j : Option Jog) : (s.setJog j).book = s.book := rfl
@[simp] theorem State.setJog_disp (j : Option Jog) : (s.setJog j).disp = s.disp := rfl
@[simp] theorem State.setJog_track (j : Option Jog) : (s.setJog j).track = s.track := rfl
@[simp] theorem State.setJog_links (j : Option Jog) : (s.setJog j).links = s.links := rfl

@[simp] theorem State.modOrder_pending (n : Nat) (f : Order → Order) : (s.modOrder n f).pending = s.pending := rfl
@[simp] theorem State.modOrder_freeCount (n : Nat) (f : Order → Order) : (s.modOrder n f).freeCount = s.freeCount := rfl
@[simp] theorem State.modOrder_framing (n : Nat) (f : Order → Order) : (s.modOrder n f).framing = s.framing := rfl
@[simp] theorem State.modOrder_map (n : Nat) (f : Order → Order) : (s.modOrder n f).map = s.map := rfl
@[simp] theorem State.modOrder_line (n : Nat) (f : Order → Order) : (s.modOrder n f).line = s.line := rfl
@[simp] theorem State.modOrder_gen (n : Nat) (f : Order → Order) : (s.modOrder n f).gen = s.gen := rfl
@[simp] theorem State.modOrder_time (n : Nat) (f : Order → Order) : (s.modOrder n f).time = s.time := rfl
@[simp] theorem State.modOrder_secs (n : Nat) (f : Order → Order) : (s.modOrder n f).secs = s.secs := rfl
@[simp] theorem State.modOrder_stations (n : Nat) (f : Order → Order) : (s.modOrder n f).stations = s.stations := rfl
@[simp] theorem State.modOrder_cars (n : Nat) (f : Order → Order) : (s.modOrder n f).cars = s.cars := rfl
@[simp] theorem State.modOrder_disp (n : Nat) (f : Order → Order) : (s.modOrder n f).disp = s.disp := rfl
@[simp] theorem State.modOrder_track (n : Nat) (f : Order → Order) : (s.modOrder n f).track = s.track := rfl
@[simp] theorem State.modOrder_links (n : Nat) (f : Order → Order) : (s.modOrder n f).links = s.links := rfl

@[simp] theorem State.setPopulation_pending (n : Nat) : (s.setPopulation n).pending = s.pending := rfl
@[simp] theorem State.setPopulation_freeCount (n : Nat) : (s.setPopulation n).freeCount = s.freeCount := rfl
@[simp] theorem State.setPopulation_framing (n : Nat) : (s.setPopulation n).framing = s.framing := rfl
@[simp] theorem State.setPopulation_map (n : Nat) : (s.setPopulation n).map = s.map := rfl
@[simp] theorem State.setPopulation_line (n : Nat) : (s.setPopulation n).line = s.line := rfl
@[simp] theorem State.setPopulation_gen (n : Nat) : (s.setPopulation n).gen = s.gen := rfl
@[simp] theorem State.setPopulation_time (n : Nat) : (s.setPopulation n).time = s.time := rfl
@[simp] theorem State.setPopulation_stations (n : Nat) : (s.setPopulation n).stations = s.stations := rfl
@[simp] theorem State.setPopulation_cars (n : Nat) : (s.setPopulation n).cars = s.cars := rfl
@[simp] theorem State.setPopulation_book (n : Nat) : (s.setPopulation n).book = s.book := rfl
@[simp] theorem State.setPopulation_disp (n : Nat) : (s.setPopulation n).disp = s.disp := rfl
@[simp] theorem State.setPopulation_track (n : Nat) : (s.setPopulation n).track = s.track := rfl
@[simp] theorem State.setPopulation_links (n : Nat) : (s.setPopulation n).links = s.links := rfl

@[simp] theorem State.modAdmission_pending (f : List StationId → List StationId) :
    (s.modAdmission f).pending = s.pending := rfl
@[simp] theorem State.modAdmission_freeCount (f : List StationId → List StationId) :
    (s.modAdmission f).freeCount = s.freeCount := rfl
@[simp] theorem State.modAdmission_framing (f : List StationId → List StationId) :
    (s.modAdmission f).framing = s.framing := rfl
@[simp] theorem State.modAdmission_map (f : List StationId → List StationId) : (s.modAdmission f).map = s.map := rfl
@[simp] theorem State.modAdmission_line (f : List StationId → List StationId) : (s.modAdmission f).line = s.line := rfl
@[simp] theorem State.modAdmission_gen (f : List StationId → List StationId) : (s.modAdmission f).gen = s.gen := rfl
@[simp] theorem State.modAdmission_time (f : List StationId → List StationId) : (s.modAdmission f).time = s.time := rfl
@[simp] theorem State.modAdmission_stations (f : List StationId → List StationId) :
    (s.modAdmission f).stations = s.stations := rfl
@[simp] theorem State.modAdmission_cars (f : List StationId → List StationId) : (s.modAdmission f).cars = s.cars := rfl
@[simp] theorem State.modAdmission_book (f : List StationId → List StationId) : (s.modAdmission f).book = s.book := rfl
@[simp] theorem State.modAdmission_disp (f : List StationId → List StationId) : (s.modAdmission f).disp = s.disp := rfl
@[simp] theorem State.modAdmission_track (f : List StationId → List StationId) : (s.modAdmission f).track = s.track := rfl
@[simp] theorem State.modAdmission_links (f : List StationId → List StationId) : (s.modAdmission f).links = s.links := rfl

@[simp] theorem State.removeOrder_pending (n : Nat) : (s.removeOrder n).pending = s.pending := rfl
@[simp] theorem State.removeOrder_freeCount (n : Nat) : (s.removeOrder n).freeCount = s.freeCount := rfl
@[simp] theorem State.removeOrder_framing (n : Nat) : (s.removeOrder n).framing = s.framing := rfl
@[simp] theorem State.removeOrder_map (n : Nat) : (s.removeOrder n).map = s.map := rfl
@[simp] theorem State.removeOrder_line (n : Nat) : (s.removeOrder n).line = s.line := rfl
@[simp] theorem State.removeOrder_gen (n : Nat) : (s.removeOrder n).gen = s.gen := rfl
@[simp] theorem State.removeOrder_time (n : Nat) : (s.removeOrder n).time = s.time := rfl
@[simp] theorem State.removeOrder_secs (n : Nat) : (s.removeOrder n).secs = s.secs := rfl
@[simp] theorem State.removeOrder_stations (n : Nat) : (s.removeOrder n).stations = s.stations := rfl
@[simp] theorem State.removeOrder_cars (n : Nat) : (s.removeOrder n).cars = s.cars := rfl
@[simp] theorem State.removeOrder_disp (n : Nat) : (s.removeOrder n).disp = s.disp := rfl
@[simp] theorem State.removeOrder_track (n : Nat) : (s.removeOrder n).track = s.track := rfl
@[simp] theorem State.removeOrder_links (n : Nat) : (s.removeOrder n).links = s.links := rfl

@[simp] theorem State.modSurvey_pending (f : SurveyRec → SurveyRec) : (s.modSurvey f).pending = s.pending := rfl
@[simp] theorem State.modSurvey_freeCount (f : SurveyRec → SurveyRec) : (s.modSurvey f).freeCount = s.freeCount := rfl
@[simp] theorem State.modSurvey_framing (f : SurveyRec → SurveyRec) : (s.modSurvey f).framing = s.framing := rfl
@[simp] theorem State.modSurvey_map (f : SurveyRec → SurveyRec) : (s.modSurvey f).map = s.map := rfl
@[simp] theorem State.modSurvey_line (f : SurveyRec → SurveyRec) : (s.modSurvey f).line = s.line := rfl
@[simp] theorem State.modSurvey_gen (f : SurveyRec → SurveyRec) : (s.modSurvey f).gen = s.gen := rfl
@[simp] theorem State.modSurvey_time (f : SurveyRec → SurveyRec) : (s.modSurvey f).time = s.time := rfl
@[simp] theorem State.modSurvey_secs (f : SurveyRec → SurveyRec) : (s.modSurvey f).secs = s.secs := rfl
@[simp] theorem State.modSurvey_stations (f : SurveyRec → SurveyRec) : (s.modSurvey f).stations = s.stations := rfl
@[simp] theorem State.modSurvey_cars (f : SurveyRec → SurveyRec) : (s.modSurvey f).cars = s.cars := rfl
@[simp] theorem State.modSurvey_book (f : SurveyRec → SurveyRec) : (s.modSurvey f).book = s.book := rfl
@[simp] theorem State.modSurvey_disp (f : SurveyRec → SurveyRec) : (s.modSurvey f).disp = s.disp := rfl
@[simp] theorem State.modSurvey_links (f : SurveyRec → SurveyRec) : (s.modSurvey f).links = s.links := rfl

@[simp] theorem State.setSweep_pending : s.setSweep.pending = s.pending := rfl
@[simp] theorem State.setSweep_freeCount : s.setSweep.freeCount = s.freeCount := rfl
@[simp] theorem State.setSweep_framing : s.setSweep.framing = s.framing := rfl
@[simp] theorem State.setSweep_map : s.setSweep.map = s.map := rfl
@[simp] theorem State.setSweep_line : s.setSweep.line = s.line := rfl
@[simp] theorem State.setSweep_gen : s.setSweep.gen = s.gen := rfl
@[simp] theorem State.setSweep_time : s.setSweep.time = s.time := rfl
@[simp] theorem State.setSweep_secs : s.setSweep.secs = s.secs := rfl
@[simp] theorem State.setSweep_stations : s.setSweep.stations = s.stations := rfl
@[simp] theorem State.setSweep_cars : s.setSweep.cars = s.cars := rfl
@[simp] theorem State.setSweep_book : s.setSweep.book = s.book := rfl
@[simp] theorem State.setSweep_disp : s.setSweep.disp = s.disp := rfl
@[simp] theorem State.setSweep_links : s.setSweep.links = s.links := rfl

@[simp] theorem State.setGen_pending : (s.setGen).pending = s.pending := rfl
@[simp] theorem State.setGen_freeCount : (s.setGen).freeCount = s.freeCount := rfl
@[simp] theorem State.setGen_framing : (s.setGen).framing = s.framing := rfl
@[simp] theorem State.setGen_map : (s.setGen).map = s.map := rfl
@[simp] theorem State.setGen_line : (s.setGen).line = s.line := rfl
@[simp] theorem State.setGen_time : (s.setGen).time = s.time := rfl
@[simp] theorem State.setGen_secs : (s.setGen).secs = s.secs := rfl
@[simp] theorem State.setGen_stations : (s.setGen).stations = s.stations := rfl
@[simp] theorem State.setGen_cars : (s.setGen).cars = s.cars := rfl
@[simp] theorem State.setGen_book : (s.setGen).book = s.book := rfl
@[simp] theorem State.setGen_disp : (s.setGen).disp = s.disp := rfl
@[simp] theorem State.setGen_track : (s.setGen).track = s.track := rfl
@[simp] theorem State.setGen_links : (s.setGen).links = s.links := rfl

@[simp] theorem State.setSlot_pending (r : ReaderId) (x : Slot) : (s.setSlot r x).pending = s.pending := rfl
@[simp] theorem State.setSlot_freeCount (r : ReaderId) (x : Slot) : (s.setSlot r x).freeCount = s.freeCount := rfl
@[simp] theorem State.setSlot_framing (r : ReaderId) (x : Slot) : (s.setSlot r x).framing = s.framing := rfl
@[simp] theorem State.setSlot_map (r : ReaderId) (x : Slot) : (s.setSlot r x).map = s.map := rfl
@[simp] theorem State.setSlot_gen (r : ReaderId) (x : Slot) : (s.setSlot r x).gen = s.gen := rfl
@[simp] theorem State.setSlot_time (r : ReaderId) (x : Slot) : (s.setSlot r x).time = s.time := rfl
@[simp] theorem State.setSlot_secs (r : ReaderId) (x : Slot) : (s.setSlot r x).secs = s.secs := rfl
@[simp] theorem State.setSlot_stations (r : ReaderId) (x : Slot) : (s.setSlot r x).stations = s.stations := rfl
@[simp] theorem State.setSlot_cars (r : ReaderId) (x : Slot) : (s.setSlot r x).cars = s.cars := rfl
@[simp] theorem State.setSlot_book (r : ReaderId) (x : Slot) : (s.setSlot r x).book = s.book := rfl
@[simp] theorem State.setSlot_disp (r : ReaderId) (x : Slot) : (s.setSlot r x).disp = s.disp := rfl
@[simp] theorem State.setSlot_track (r : ReaderId) (x : Slot) : (s.setSlot r x).track = s.track := rfl
@[simp] theorem State.setSlot_links (r : ReaderId) (x : Slot) : (s.setSlot r x).links = s.links := rfl

@[simp] theorem State.setFilter_pending (x : Sensor) (f : Filter) : (s.setFilter x f).pending = s.pending := rfl
@[simp] theorem State.setFilter_freeCount (x : Sensor) (f : Filter) : (s.setFilter x f).freeCount = s.freeCount := rfl
@[simp] theorem State.setFilter_framing (x : Sensor) (f : Filter) : (s.setFilter x f).framing = s.framing := rfl
@[simp] theorem State.setFilter_map (x : Sensor) (f : Filter) : (s.setFilter x f).map = s.map := rfl
@[simp] theorem State.setFilter_gen (x : Sensor) (f : Filter) : (s.setFilter x f).gen = s.gen := rfl
@[simp] theorem State.setFilter_time (x : Sensor) (f : Filter) : (s.setFilter x f).time = s.time := rfl
@[simp] theorem State.setFilter_secs (x : Sensor) (f : Filter) : (s.setFilter x f).secs = s.secs := rfl
@[simp] theorem State.setFilter_stations (x : Sensor) (f : Filter) : (s.setFilter x f).stations = s.stations := rfl
@[simp] theorem State.setFilter_cars (x : Sensor) (f : Filter) : (s.setFilter x f).cars = s.cars := rfl
@[simp] theorem State.setFilter_book (x : Sensor) (f : Filter) : (s.setFilter x f).book = s.book := rfl
@[simp] theorem State.setFilter_disp (x : Sensor) (f : Filter) : (s.setFilter x f).disp = s.disp := rfl
@[simp] theorem State.setFilter_track (x : Sensor) (f : Filter) : (s.setFilter x f).track = s.track := rfl
@[simp] theorem State.setFilter_links (x : Sensor) (f : Filter) : (s.setFilter x f).links = s.links := rfl

@[simp] theorem State.setTagHalf_pending (h : Option Byte) : (s.setTagHalf h).pending = s.pending := rfl
@[simp] theorem State.setTagHalf_freeCount (h : Option Byte) : (s.setTagHalf h).freeCount = s.freeCount := rfl
@[simp] theorem State.setTagHalf_framing (h : Option Byte) : (s.setTagHalf h).framing = s.framing := rfl
@[simp] theorem State.setTagHalf_map (h : Option Byte) : (s.setTagHalf h).map = s.map := rfl
@[simp] theorem State.setTagHalf_gen (h : Option Byte) : (s.setTagHalf h).gen = s.gen := rfl
@[simp] theorem State.setTagHalf_time (h : Option Byte) : (s.setTagHalf h).time = s.time := rfl
@[simp] theorem State.setTagHalf_secs (h : Option Byte) : (s.setTagHalf h).secs = s.secs := rfl
@[simp] theorem State.setTagHalf_stations (h : Option Byte) : (s.setTagHalf h).stations = s.stations := rfl
@[simp] theorem State.setTagHalf_cars (h : Option Byte) : (s.setTagHalf h).cars = s.cars := rfl
@[simp] theorem State.setTagHalf_book (h : Option Byte) : (s.setTagHalf h).book = s.book := rfl
@[simp] theorem State.setTagHalf_disp (h : Option Byte) : (s.setTagHalf h).disp = s.disp := rfl
@[simp] theorem State.setTagHalf_track (h : Option Byte) : (s.setTagHalf h).track = s.track := rfl
@[simp] theorem State.setTagHalf_links (h : Option Byte) : (s.setTagHalf h).links = s.links := rfl

@[simp] theorem State.setMap_pending (m : StopMap) : (s.setMap m).pending = s.pending := rfl
@[simp] theorem State.setMap_freeCount (m : StopMap) : (s.setMap m).freeCount = s.freeCount := rfl
@[simp] theorem State.setMap_framing (m : StopMap) : (s.setMap m).framing = s.framing := rfl
@[simp] theorem State.setMap_line (m : StopMap) : (s.setMap m).line = s.line := rfl
@[simp] theorem State.setMap_gen (m : StopMap) : (s.setMap m).gen = s.gen := rfl
@[simp] theorem State.setMap_time (m : StopMap) : (s.setMap m).time = s.time := rfl
@[simp] theorem State.setMap_secs (m : StopMap) : (s.setMap m).secs = s.secs := rfl
@[simp] theorem State.setMap_stations (m : StopMap) : (s.setMap m).stations = s.stations := rfl
@[simp] theorem State.setMap_cars (m : StopMap) : (s.setMap m).cars = s.cars := rfl
@[simp] theorem State.setMap_book (m : StopMap) : (s.setMap m).book = s.book := rfl
@[simp] theorem State.setMap_disp (m : StopMap) : (s.setMap m).disp = s.disp := rfl
@[simp] theorem State.setMap_track (m : StopMap) : (s.setMap m).track = s.track := rfl
@[simp] theorem State.setMap_links (m : StopMap) : (s.setMap m).links = s.links := rfl

end Frames

end Sys2Proof.Machine
end

