-- ==== Sys2Proof/Laws/Inert.lean ====
section
/-! SUPPORT. What the shared operations of the track can do, said once: each is a chain of the updates `Inert` lists, so a property
that those updates keep is kept by every operation of the section table, the spur unit, the carrier table, the order book, the
dispatcher, track control and the survey. No such operation touches the commands that wait, the stop map, the framing, the time
base, a filter, the tag port, a count of strays on the tag port, or anything of a link unit but its notices. -/

namespace Sys2Proof.Machine

/-- A property kept by every update an operation of the track makes. -/
structure Inert (P : State → Prop) : Prop where
  secs : ∀ (s : State) x, P s → P { s with secs := x }
  stations : ∀ (s : State) x, P s → P { s with stations := x }
  cars : ∀ (s : State) x, P s → P { s with cars := x }
  disp : ∀ (s : State) x, P s → P { s with disp := x }
  track : ∀ (s : State) x, P s → P { s with track := x }
  gen : ∀ (s : State) x, P s → P { s with gen := x }
  freeCount : ∀ (s : State) x, P s → P { s with freeCount := x }
  latches : ∀ (s : State) x, P s → P { s with line := { s.line with latches := x } }
  slots : ∀ (s : State) x, P s → P { s with line := { s.line with slots := x } }
  notice : ∀ (s : State) l k tag body, P s → P (s.notice l k tag body)
  removeOrder : ∀ (s : State) n, P s → P (s.removeOrder n)
  modOrder : ∀ (s : State) n f, (∀ o : Order, (f o).ticket = o.ticket ∧ (f o).lines = o.lines) → P s → P (s.modOrder n f)

namespace Inert

variable {P : State → Prop} (hP : Inert P) {s : State}

include hP

/-! ## Updates -/

theorem setSec (k r) (h : P s) : P (s.setSec k r) := hP.secs s _ h
theorem modSec (k f) (h : P s) : P (s.modSec k f) := hP.secs s _ h
theorem setStn (i r) (h : P s) : P (s.setStn i r) := hP.stations s _ h
theorem modStn (i f) (h : P s) : P (s.modStn i f) := hP.stations s _ h
theorem setCar (c r) (h : P s) : P (s.setCar c r) :=
  hP.disp { s with cars := { s.cars with recs := tset s.cars.recs c r } } _ (hP.cars s _ h)
theorem modCar (c f) (h : P s) : P (s.modCar c f) := hP.setCar c (f (s.car c)) h
theorem modTrack (f) (h : P s) : P (s.modTrack f) := hP.track s _ h
theorem modSurvey (f) (h : P s) : P (s.modSurvey f) := hP.track s _ h
theorem modLatches (f) (h : P s) : P (s.modLatches f) := hP.latches s _ h
theorem setGen (h : P s) : P s.setGen := hP.gen s _ h
theorem setSlot (r x) (h : P s) : P (s.setSlot r x) := hP.slots s _ h
theorem setJog (j) (h : P s) : P (s.setJog j) := hP.cars s _ h
theorem setStalledCount (n) (h : P s) : P (s.setStalledCount n) := hP.cars s _ h
theorem raiseOpportunity (h : P s) : P s.raiseOpportunity := hP.disp s _ h
theorem countStrayEdge (h : P s) : P s.countStrayEdge := hP.secs s _ h
theorem setPopulation (n) (h : P s) : P (s.setPopulation n) := hP.secs s _ h
theorem modAdmission (f) (h : P s) : P (s.modAdmission f) := hP.secs s _ h
theorem useFree (n) (h : P s) : P (s.useFree n) := hP.freeCount s _ h
theorem dropCall (i) (h : P s) : P (s.dropCall i) := hP.raiseOpportunity (hP.modStn _ _ h)

omit hP in
/-- A property kept by each step of a fold is kept by the fold. -/
theorem fold {α : Type} (f : State → α → State) (hf : ∀ s a, P s → P (f s a)) (l : List α) (h : P s) : P (l.foldl f s) := by
  induction l generalizing s with
  | nil => exact h
  | cons a l ih => exact ih (hf _ _ h)

omit hP in
/-- A property of both branches is one of the choice. -/
theorem ite {c : Prop} [Decidable c] {a b : State} (ha : P a) (hb : P b) : P (if c then a else b) := by
  split
  · exact ha
  · exact hb

theorem reindex (i) (h : P s) : P (s.reindex i) := by
  refine fold _ (fun s a h => ?_) _ h
  split
  · exact hP.modCar _ _ h
  · exact h

/-! ## Drives -/

theorem applyDrive (k) (h : P s) : P (s.applyDrive k) := hP.modLatches _ h
theorem applySpur (i) (h : P s) : P (s.applySpur i) := hP.modLatches _ h
theorem applyAll (h : P s) : P s.applyAll := hP.modLatches _ h
theorem setV (i b) (h : P s) : P (s.setV i b) := hP.modLatches _ h
theorem setG (i b) (h : P s) : P (s.setG i b) := hP.modLatches _ h

theorem applyDriveOf (c) (h : P s) : P (s.applyDriveOf c) := by
  unfold State.applyDriveOf
  split
  · exact hP.applyDrive _ h
  · exact h

theorem applySpurOf (c) (h : P s) : P (s.applySpurOf c) := by
  unfold State.applySpurOf
  split
  · exact hP.applySpur _ h
  · exact h

/-! ## Track control -/

theorem endJog (h : P s) : P s.endJog := by
  unfold State.endJog
  split
  · exact hP.notice _ _ _ _ _ (hP.setJog _ h)
  · exact h

theorem changeMode (m) (h : P s) : P (s.changeMode m) := by
  unfold State.changeMode
  dsimp only
  have h1 := hP.notice _ .service .mode 0#8
    [byte1 m.code, byte1 s.track.mode.code, flagByte s.track.autoParked, flagByte s.track.faultFlag]
    (hP.applyAll (hP.setGen (hP.modLatches (fun l => { l with driveOn := m.driveOn })
      (hP.modTrack (fun t => { t with mode := m }) h))))
  split
  · exact h
  · split <;> split
    · exact hP.endJog (hP.raiseOpportunity h1)
    · exact hP.endJog h1
    · exact hP.raiseOpportunity h1
    · exact h1

theorem enterWarmup (h : P s) : P s.enterWarmup := hP.changeMode _ (hP.modTrack _ h)

theorem completeResume (o) (h : P s) : P (s.completeResume o) := by
  unfold State.completeResume
  split
  · exact hP.notice _ _ _ _ _ (hP.modTrack _ h)
  · exact h

theorem finishSurvey (o) (h : P s) : P (s.finishSurvey o) := by
  unfold State.finishSurvey
  split
  · exact hP.notice _ _ _ _ _ (hP.modTrack _ h)
  · exact h

theorem abortSurvey (h : P s) : P s.abortSurvey := by
  unfold State.abortSurvey
  split
  · exact hP.applyAll (hP.finishSurvey _ h)
  · exact h

theorem faultNotice (k p c) (h : P s) : P (s.faultNotice k p c) := by
  unfold State.faultNotice
  dsimp only
  split
  · exact hP.useFree _ (hP.notice _ _ _ _ _ h)
  · exact hP.notice _ _ _ _ _ h

theorem raiseFault (k p c) (h : P s) : P (s.raiseFault k p c) :=
  hP.abortSurvey (hP.completeResume _ (hP.changeMode _ (hP.faultNotice _ _ _ (hP.modTrack _ h))))

theorem wake (h : P s) : P s.wake := by
  unfold State.wake
  split
  · exact hP.enterWarmup (hP.modTrack _ h)
  · exact h

theorem autopark (h : P s) : P s.autopark := hP.modTrack _ h

/-! ## Carriers -/

theorem clearStall (c f) (h : P s) : P (s.clearStall c f) := by
  unfold State.clearStall
  dsimp only
  split
  · exact hP.setStalledCount _ (hP.setCar _ _ h)
  · exact hP.setCar _ _ h

theorem becomeUnknown (c) (h : P s) : P (s.becomeUnknown c) := hP.modCar _ _ (hP.clearStall _ _ h)
theorem becomeOut (c) (h : P s) : P (s.becomeOut c) := hP.modCar _ _ (hP.clearStall _ _ h)
theorem becomeReturning (c) (h : P s) : P (s.becomeReturning c) := hP.modCar _ _ h
theorem stallNotice (c k) (h : P s) : P (s.stallNotice c k) := hP.notice _ _ _ _ _ h
theorem goodRead (c) (h : P s) : P (s.goodRead c) := hP.modCar _ _ h
theorem misread (c) (h : P s) : P (s.misread c) := hP.modCar _ _ h

theorem takeOverrun (c k) (h : P s) : P (s.takeOverrun c k) := by
  unfold State.takeOverrun
  exact ite
    (hP.raiseFault _ _ _ (hP.stallNotice _ _ (hP.applySpurOf _ (hP.applyDriveOf _
      (ite (hP.modCar _ _ h) (hP.setStalledCount _ (hP.modCar _ _ h)))))))
    (hP.stallNotice _ _ (hP.applySpurOf _ (hP.applyDriveOf _
      (ite (hP.modCar _ _ h) (hP.setStalledCount _ (hP.modCar _ _ h))))))

theorem checkStretch (c) (h : P s) : P (s.checkStretch c) := by
  unfold State.checkStretch
  dsimp only
  split
  · exact hP.takeOverrun _ _ (hP.modCar _ _ h)
  · exact h

theorem checkWatch (c) (h : P s) : P (s.checkWatch c) := by
  unfold State.checkWatch
  dsimp only
  split
  · exact hP.takeOverrun _ _ (hP.modCar _ _ h)
  · exact h

/-! ## Sections -/

theorem grantLaunch (i c) (h : P s) : P (s.grantLaunch i c) :=
  hP.applySpur _ (hP.modCar _ _ (hP.setG _ _ (hP.modStn _ _ h)))

theorem grantLoop (k c n) (h : P s) : P (s.grantLoop k c n) := hP.applyDrive _ (hP.modSec _ _ h)

theorem grantMerge (k i) (h : P s) : P (s.grantMerge k i) := by
  unfold State.grantMerge
  split
  · exact hP.grantLaunch _ _ (hP.modAdmission _ (hP.setPopulation _ (hP.modSec _ _ h)))
  · exact h

theorem arbiter (k) (h : P s) : P (s.arbiter k) := by
  unfold State.arbiter
  dsimp only
  split
  · split
    · exact h
    · exact hP.grantLoop _ _ _ h
    · split
      · exact hP.grantLoop _ _ _ h
      · exact hP.grantMerge _ _ h
    · exact hP.grantMerge _ _ h
  · exact h

theorem release (k) (h : P s) : P (s.release k) := hP.arbiter _ (hP.modSec _ _ h)

theorem releaseTrail (k c) (h : P s) : P (s.releaseTrail k c) := by
  unfold State.releaseTrail
  split
  · exact hP.release _ h
  · exact h

theorem claimLoop (k c) (h : P s) : P (s.claimLoop k c) := hP.arbiter _ (hP.modSec _ _ h)

theorem claimMerge (i) (h : P s) : P (s.claimMerge i) := by
  unfold State.claimMerge
  dsimp only
  split
  · exact h
  · have h1 := hP.modAdmission (fun q => q ++ [i])
      (hP.modSec (s.mergeSec i) (fun r => { r with mergeClaim := some i }) h)
    split
    · exact hP.arbiter _ h1
    · exact h1

theorem withdrawMerge (i) (h : P s) : P (s.withdrawMerge i) := hP.modAdmission _ (hP.modSec _ _ h)

theorem reexamine (h : P s) : P s.reexamine := by
  refine fold _ (fun s a h => ?_) _ h
  split
  · exact hP.arbiter _ h
  · exact h

theorem dropPopulation (h : P s) : P s.dropPopulation := hP.reexamine (hP.setPopulation _ h)

theorem requestLaunch (i c) (h : P s) : P (s.requestLaunch i c) := by
  unfold State.requestLaunch
  split
  · split
    · exact hP.claimMerge _ (hP.modStn _ _ h)
    · split
      · exact h
      · exact hP.modStn _ _ h
  · exact h

/-! ## Orders -/

theorem completeOrder (o e) (h : P s) : P (s.completeOrder o e) := hP.notice _ _ _ _ _ h

theorem dropFirstCall (o) (h : P s) : P (s.dropFirstCall o) := by
  unfold State.dropFirstCall
  split
  · exact hP.dropCall _ h
  · exact h

theorem failOrder (o) (h : P s) : P (s.failOrder o) := hP.completeOrder _ _ (hP.removeOrder _ _ h)

theorem arriveStock (c i) (h : P s) : P (s.arriveStock c i) := by
  unfold State.arriveStock
  split
  · exact hP.notice _ _ _ _ _ (hP.modCar _ _ (hP.modOrder _ _ _ (fun _ => ⟨rfl, rfl⟩) h))
  · exact h

theorem arriveCounter (c) (h : P s) : P (s.arriveCounter c) := by
  unfold State.arriveCounter
  split
  · exact hP.notice _ _ _ _ _ (hP.modCar _ _ (hP.modOrder _ _ _ (fun _ => ⟨rfl, rfl⟩) h))
  · exact h

/-! ## Spurs -/

theorem grantPlace (c k i) (h : P s) : P (s.grantPlace c k i) :=
  hP.applyDrive _ (hP.modCar _ _ (hP.modSec _ _ (hP.setV _ _ (hP.modStn _ _ h))))

theorem circling (c i) (h : P s) : P (s.circling c i) := by
  unfold State.circling
  split
  · exact hP.notice _ _ _ _ _ h
  · exact h

theorem goAround (c i) (h : P s) : P (s.goAround c i) := by
  unfold State.goAround
  dsimp only
  split
  · split
    · exact hP.circling _ _ (hP.modCar _ _ h)
    · exact hP.modCar _ _ h
  · exact h

theorem claimNext (c k) (h : P s) : P (s.claimNext c k) := by
  unfold State.claimNext
  split
  · split
    · split
      · exact hP.grantPlace _ _ _ h
      · exact hP.claimLoop _ _ (hP.goAround _ _ h)
    · exact hP.claimLoop _ _ h
  · exact hP.claimLoop _ _ h

theorem tryMoveUp (i) (h : P s) : P (s.tryMoveUp i) := by
  unfold State.tryMoveUp
  dsimp only
  split
  · split
    · exact hP.applySpur _ (hP.modCar _ _ (hP.modStn _ _ h))
    · exact h
  · exact h

theorem unqueue (i c) (h : P s) : P (s.unqueue i c) := hP.reindex _ (hP.modStn _ _ h)
theorem enqueue (i c f) (h : P s) : P (s.enqueue i c f) := by
  unfold State.enqueue
  exact hP.modCar _ _ (hP.modStn _ _ h)

theorem launchEnters (i c) (h : P s) : P (s.launchEnters i c) := by
  have h1 := hP.applySpur i (hP.unqueue i c
    (hP.modStn i (fun r => { r with launchPending := none, launchGranted := false }) h))
  unfold State.launchEnters
  dsimp only
  split
  · refine hP.tryMoveUp _ (hP.setG _ _ (hP.modStn _ _ ?_))
    split
    · split
      · exact hP.requestLaunch _ _ (hP.modStn _ _ h1)
      · exact h1
    · exact h1
  · split
    · split
      · exact hP.requestLaunch _ _ (hP.modStn _ _ h1)
      · exact h1
    · exact h1

theorem dockEffects (i c) (h : P s) : P (s.dockEffects i c) := by
  unfold State.dockEffects
  dsimp only
  split
  · split
    · exact hP.arriveStock _ _ h
    · exact hP.requestLaunch _ _ h
  · split
    · exact hP.arriveCounter _ h
    · exact hP.requestLaunch _ _ h
  · split
    · exact hP.modCar _ _ h
    · split
      · exact hP.modCar _ _ h
      · exact h
    · exact hP.requestLaunch _ _ h
  · exact h

theorem dockCarrier (i c a) (h : P s) : P (s.dockCarrier i c a) := hP.dockEffects _ _ (hP.modCar _ _ (hP.modStn _ _ h))

theorem leaveLoop (j c) (h : P s) : P (s.leaveLoop j c) := by
  unfold State.leaveLoop
  dsimp only
  refine hP.applyDrive _ (hP.dropPopulation (hP.modSec _ _ ?_))
  split
  · exact hP.modSec _ _ (hP.releaseTrail _ _ h)
  · exact h

theorem enterSpur (i j c) (h : P s) : P (s.enterSpur i j c) :=
  hP.applySpur _ (hP.tryMoveUp _ (hP.enqueue _ _ _ (hP.clearStall _ _ (hP.setV _ _ (hP.modStn _ _ (hP.leaveLoop _ _ h))))))

theorem spurLead (i) (h : P s) : P (s.spurLead i) := by
  unfold State.spurLead
  dsimp only
  split
  · exact hP.raiseFault _ _ _ h
  · split
    · split
      · exact hP.enterSpur _ _ _ h
      · exact hP.raiseFault _ _ _ h
    · exact hP.raiseFault _ _ _ h

theorem spurTrail (i) (h : P s) : P (s.spurTrail i) := by
  unfold State.spurTrail
  split
  · refine hP.applySpur _ (hP.modStn _ _ ?_)
    split
    · exact hP.modCar _ _ (hP.clearStall _ _ (hP.releaseTrail _ _ h))
    · exact hP.releaseTrail _ _ h
  · exact h

theorem dockLead (i) (h : P s) : P (s.dockLead i) := by
  unfold State.dockLead
  split
  · exact hP.applySpur _ (hP.dockCarrier _ _ _ (hP.modStn _ _ (hP.modCar _ _ (hP.clearStall _ _ h))))
  · exact hP.modStn _ _ (hP.raiseFault _ _ _ h)

theorem launchLeaves (i) (h : P s) : P (s.launchLeaves i) := hP.tryMoveUp _ (hP.setG _ _ (hP.modStn _ _ h))

theorem removeRetired (i c) (h : P s) : P (s.removeRetired i c) :=
  hP.applySpur _ (hP.tryMoveUp _ (hP.becomeOut _ (hP.unqueue _ _ (hP.modStn _ _ (hP.releaseTrail _ _ h)))))

theorem removeUnexpected (i c) (h : P s) : P (s.removeUnexpected i c) := by
  unfold State.removeUnexpected
  have h0 := hP.raiseFault .removedUnexpected (.station i) (some c) h
  generalize s.raiseFault .removedUnexpected (.station i) (some c) = s at h0
  have h1 := hP.releaseTrail (s.stn i).junction c h0
  dsimp only
  generalize s.releaseTrail (s.stn i).junction c = s at h1
  have h2 : P (if (s.stn i).launchPending = some c then
      (s.withdrawMerge i).modStn i fun r => { r with launchPending := none, launchGranted := false } else s) := by
    split
    · exact hP.modStn _ _ (hP.withdrawMerge _ h1)
    · exact h1
  generalize (if (s.stn i).launchPending = some c then
      (s.withdrawMerge i).modStn i fun r => { r with launchPending := none, launchGranted := false } else s) = s at h2
  have h3 : P (if (s.stn i).heldLaunch = some c then s.modStn i fun r => { r with heldLaunch := none } else s) := by
    split
    · exact hP.modStn _ _ h2
    · exact h2
  have h4 := hP.becomeUnknown c (hP.unqueue i c (hP.modStn i (fun r => { r with dock := .empty }) h3))
  refine hP.applySpur _ (hP.tryMoveUp _ ?_)
  split
  · exact hP.dropFirstCall _ (hP.failOrder _ h4)
  · exact h4

theorem dockTrail (i) (h : P s) : P (s.dockTrail i) := by
  unfold State.dockTrail
  split
  · exact hP.launchLeaves _ h
  · split
    · exact hP.removeRetired _ _ h
    · exact hP.removeUnexpected _ _ h
  · exact h

theorem dockRead (i r) (h : P s) : P (s.dockRead i r) := by
  unfold State.dockRead
  dsimp only
  have h1 := hP.modStn i (fun r => { r with awaitedDock := .none }) h
  split
  · split
    · exact hP.misread _ h1
    · split
      · exact hP.goodRead _ h1
      · exact hP.raiseFault _ _ _ h1
  · exact h1

/-! ## Entries -/

theorem forgetTail (k c) (h : P s) : P (s.forgetTail k c) := by
  unfold State.forgetTail
  split
  · exact hP.modSec _ _ (hP.releaseTrail _ _ h)
  · exact h

theorem leaveSection (k c) (h : P s) : P (s.leaveSection k c) := by
  unfold State.leaveSection
  split
  · exact hP.modSec _ _ h
  · exact h

theorem enterRecord (k c) (h : P s) : P (s.enterRecord k c) := hP.modCar _ _ (hP.clearStall _ _ h)

theorem launchArrives (c) (h : P s) : P (s.launchArrives c) := by
  unfold State.launchArrives
  split
  · exact hP.launchEnters _ _ h
  · exact h

theorem enterSection (k c w) (h : P s) : P (s.enterSection k c w) := by
  unfold State.enterSection
  dsimp only
  refine hP.applyDrive _ (hP.applyDrive _ (hP.claimNext _ _ ?_))
  have h1 := hP.forgetTail (s.prevSec k) c h
  generalize s.forgetTail (s.prevSec k) c = x at h1
  have h2 : P (if w = .loop then x.leaveSection (s.prevSec k) c else x) := by
    split
    · exact hP.leaveSection _ _ h1
    · exact h1
  have h3 := hP.enterRecord k c (hP.modSec k (fun r => { r with st := .occupied c, tailPending := true, awaited := .carrier c }) h2)
  split
  · exact hP.launchArrives _ h3
  · exact h3

theorem entryLead (k) (h : P s) : P (s.entryLead k) := by
  unfold State.entryLead
  split
  · exact hP.enterSection _ _ _ h
  · exact hP.raiseFault _ _ _ (hP.modSec _ _ h)

theorem entryTrail (k) (h : P s) : P (s.entryTrail k) := by
  unfold State.entryTrail
  split
  · split
    · dsimp only
      refine hP.applyDrive _ ?_
      split
      · exact hP.modCar _ _ (hP.clearStall _ _ (hP.modSec _ _ (hP.releaseTrail _ _ h)))
      · exact hP.modSec _ _ (hP.releaseTrail _ _ h)
    · exact hP.modSec _ _ h
  · exact hP.countStrayEdge h

theorem entryRead (k r) (h : P s) : P (s.entryRead k r) := by
  unfold State.entryRead
  dsimp only
  have h1 := hP.modSec k (fun r => { r with awaited := .none }) h
  split
  · split
    · exact hP.misread _ h1
    · split
      · exact hP.goodRead _ h1
      · exact hP.raiseFault _ _ _ h1
  · exact h1
  · exact hP.countStrayEdge h1

/-! ## Survey -/

theorem surveyFail (p c) (h : P s) : P (s.surveyFail p c) := hP.raiseFault _ _ _ h

theorem leadAtStart (k) (h : P s) : P (s.leadAtStart k) := by
  unfold State.leadAtStart
  split
  · exact h
  · split
    · exact hP.modSurvey _ h
    · exact hP.surveyFail _ _ h

theorem beginSweep (h : P s) : P s.beginSweep :=
  fold _ (fun _ k h => hP.leadAtStart k h) _ (hP.changeMode _ (hP.modSurvey _ h))

theorem setClearing (i x) (h : P s) : P (s.setClearing i x) := hP.modSurvey _ h

theorem surveyOrders (h : P s) : P s.surveyOrders := by
  refine fold _ (fun s a h => ?_) _ h
  split
  · exact hP.failOrder _ h
  · exact h

theorem surveyCarriers (h : P s) : P s.surveyCarriers := by
  refine hP.setStalledCount _ (fold _ (fun t c h => ?_) _ h)
  split
  · split
    · exact hP.modCar _ _ h
    · exact hP.becomeUnknown _ h
  · exact h

theorem surveySections (h : P s) : P s.surveySections := hP.secs s _ h

theorem surveyStations (kept) (h : P s) : P (s.surveyStations kept) := by
  refine fold _ (fun s a h => ?_) _ (fold _ (fun s a h => hP.reindex _ h) _ (hP.modLatches _ (hP.stations s _ h)))
  split
  · exact hP.tryMoveUp _ h
  · exact h

theorem acceptSurvey (tag) (h : P s) : P (s.acceptSurvey tag) := by
  unfold State.acceptSurvey
  dsimp only
  have h1 := hP.applyAll (hP.modTrack
    (fun t => { t with survey := some SurveyRec.fresh, completion := .survey tag, autoParked := false })
    (hP.surveyStations s.kept (hP.surveySections (hP.setGen (hP.endJog (hP.surveyCarriers (hP.surveyOrders h)))))))
  split
  · exact hP.beginSweep h1
  · exact hP.enterWarmup h1

theorem sweepLead (k) (h : P s) : P (s.sweepLead k) := by
  unfold State.sweepLead
  split
  · exact h
  · split
    · exact hP.modSurvey _ h
    · split
      · exact hP.modSurvey _ h
      · exact hP.surveyFail _ _ h

theorem sweepTrail (k) (h : P s) : P (s.sweepTrail k) := by
  unfold State.sweepTrail
  split
  · exact h
  · split
    · exact hP.modSurvey _ h
    · exact hP.countStrayEdge h

theorem sweepRead (k r) (h : P s) : P (s.sweepRead k r) := by
  unfold State.sweepRead
  split
  · exact h
  · dsimp only
    have h1 := hP.modSurvey (fun v => { v with awaited := tset v.awaited k none }) h
    split
    · exact hP.countStrayEdge h1
    · split
      · split
        · exact hP.modSurvey _ h1
        · exact hP.surveyFail _ _ h1
      · split
        · exact hP.surveyFail _ _ (hP.modSurvey _ h1)
        · exact hP.modSurvey _ h1
      · split
        · exact h1
        · exact hP.surveyFail _ _ h1
      · exact h1

theorem trackMarker (m c) (h : P s) : P (s.trackMarker m c) := hP.modCar _ _ h

theorem placeTracked (ms) (h : P s) : P (s.placeTracked ms) := by
  refine hP.setPopulation _ (fold _ (fun s a h => ?_) _ (fold _ (fun s a h => hP.modSec _ _ h) _ h))
  dsimp only
  split
  · exact h
  · exact hP.modSec _ _ h

theorem startDriving (i) (h : P s) : P (s.startDriving i) := hP.applySpur _ (hP.setClearing _ _ h)

theorem trackAtDock (i c p) (h : P s) : P (s.trackAtDock i c p) :=
  hP.applySpur _ (hP.requestLaunch _ _ (hP.setClearing _ _ (hP.modSurvey _ (hP.modStn _ _ (hP.modCar _ _ h)))))

theorem nameHead (i r) (h : P s) : P (s.nameHead i r) := by
  unfold State.nameHead
  split
  · split
    · exact hP.trackAtDock _ _ _ h
    · exact hP.surveyFail _ _ h
  · split
    · exact hP.trackAtDock _ _ _ h
    · exact hP.surveyFail _ _ h

theorem startClearing (i) (h : P s) : P (s.startClearing i) := by
  unfold State.startClearing
  split
  · split
    · exact hP.nameHead _ _ (hP.setSlot _ _ h)
    · exact hP.startDriving _ h
  · exact h

theorem trackAll (v) (h : P s) : P (s.trackAll v) := by
  refine fold _ (fun s i h => hP.startClearing i h) _ (fold _ (fun s m h => hP.checkWatch _ (hP.checkStretch _ h)) _
    (hP.applyAll (fold _ (fun s m h => hP.claimLoop _ _ h) _ (hP.placeTracked _
      (fold _ (fun s m h => hP.trackMarker _ _ h) _ (hP.modSurvey _ h))))))

theorem clearingLead (i) (h : P s) : P (s.clearingLead i) := by
  unfold State.clearingLead
  split
  · exact hP.setClearing _ _ h
  · exact h

theorem clearingTrail (i) (h : P s) : P (s.clearingTrail i) := hP.startDriving _ (hP.launchLeaves _ h)

theorem rename (p d) (h : P s) : P (s.rename p d) := by
  have h1 := hP.stations _ (Vector.ofFn fun i => (s.stn i).rename p d)
    (hP.secs s { s.secs with recs := Vector.ofFn fun k => (s.sec k).rename p d } h)
  unfold State.rename
  exact hP.modSurvey _ (hP.setCar _ _ (hP.setCar _ _ h1))

theorem provisionalRead (c p r) (h : P s) : P (s.provisionalRead c p r) := by
  unfold State.provisionalRead
  split
  · exact hP.misread _ h
  · split
    · exact hP.goodRead _ (hP.modSurvey _ h)
    · split
      · exact hP.rename _ _ h
      · exact hP.surveyFail _ _ h

theorem sectionRead (k r) (h : P s) : P (s.sectionRead k r) := by
  unfold State.sectionRead
  split
  · split
    · exact hP.provisionalRead _ _ _ (hP.modSec _ _ h)
    · exact hP.entryRead _ _ h
  · exact hP.entryRead _ _ h

theorem stationRead (i r) (h : P s) : P (s.stationRead i r) := by
  unfold State.stationRead
  split
  · exact hP.nameHead _ _ (hP.setClearing _ _ h)
  · split
    · split
      · exact hP.provisionalRead _ _ _ (hP.modStn _ _ h)
      · exact hP.dockRead _ _ h
    · exact hP.dockRead _ _ h

theorem surveyProgress (h : P s) : P s.surveyProgress := by
  have h1 : P s.endClearing := by
    unfold State.endClearing
    split
    · split
      · exact hP.modSurvey _ h
      · exact h
    · exact h
  unfold State.surveyProgress State.endReturn
  split
  · split
    · exact hP.finishSurvey _ (hP.changeMode _ h1)
    · exact h1
  · exact h1

/-! ## Dispatch -/

theorem assign (o c stops first) (h : P s) : P (s.assign o c stops first) := by
  unfold State.assign
  dsimp only
  have h1 := hP.modCar c (fun r => { (r.setDest (some first)) with state := .called, order := some o.ticket })
    (hP.modOrder _ o.ticket (fun x => { x with carrier := some c, stops := stops, nextStop := 0, state := .assigned })
      (fun _ => ⟨rfl, rfl⟩) (hP.modStn first (fun r => { r with calls := r.calls + 1 }) h))
  split
  · exact hP.requestLaunch _ _ h1
  · exact h1

theorem tryAssign (o) {t} (ht : s.tryAssign o = some t) (h : P s) : P t := by
  unfold State.tryAssign at ht
  split at ht
  · cases ht
  · split at ht
    · cases ht
    · split at ht
      · cases ht
      · split at ht
        · cases ht
          exact hP.assign _ _ _ _ h
        · cases ht

theorem round (os) {p} (hp : s.round os = some p) (h : P s) : P p.1 := by
  induction os generalizing p with
  | nil => cases hp
  | cons o os ih =>
    unfold State.round at hp
    split at hp
    · next t ht => cases hp; exact hP.tryAssign o ht h
    · cases hr : s.round os with
      | none => simp [hr] at hp
      | some q =>
        simp only [hr, Option.map_some, Option.some.injEq] at hp
        have h2 := ih hr
        rw [← hp]
        exact h2

theorem rounds (n os) (h : P s) : P (State.rounds n s os) := by
  induction n generalizing s os with
  | zero => exact h
  | succ n ih =>
    unfold State.rounds
    split
    · next p hp => exact ih _ (hP.round _ hp h)
    · exact h

theorem pass (h : P s) : P s.pass := hP.rounds _ _ h

theorem dispatch (h : P s) : P s.dispatch := by
  unfold State.dispatch
  dsimp only
  refine hP.disp _ _ ?_
  split
  · exact hP.pass h
  · exact h

theorem finish (h : P s) : P s.finish := hP.autopark (hP.dispatch (hP.surveyProgress h))

/-! ## Events of the sensors and of the step generator -/

theorem takeLead (x) (h : P s) : P (s.takeLead x) := by
  cases x with
  | entry k => exact ite (hP.sweepLead _ h) (hP.entryLead _ h)
  | spurEntry i => exact hP.spurLead _ h
  | dock i => exact ite (hP.clearingLead _ h) (hP.dockLead _ h)
  | driveReady => exact h

theorem driveReadyTrail (h : P s) : P s.driveReadyTrail := by
  unfold State.driveReadyTrail
  split
  · exact hP.raiseFault _ _ _ h
  · exact hP.raiseFault _ _ _ h
  · exact hP.raiseFault _ _ _ h
  · exact hP.raiseFault _ _ _ h
  · exact h
  · exact h

theorem takeDockTrail (i) (h : P s) : P (s.takeDockTrail i) := by
  unfold State.takeDockTrail
  split
  · exact hP.clearingTrail _ h
  · exact hP.dockTrail _ h

theorem takeTrail (x) (h : P s) : P (s.takeTrail x) := by
  cases x with
  | entry k => exact ite (hP.sweepTrail _ h) (hP.entryTrail _ h)
  | spurEntry i => exact hP.spurTrail _ h
  | dock i => exact hP.takeDockTrail _ h
  | driveReady => exact hP.driveReadyTrail h

theorem takeRead (x r) (h : P s) : P (s.takeRead x r) := by
  cases x with
  | entry k => exact ite (hP.sweepRead _ _ h) (hP.sectionRead _ _ h)
  | dock i => exact hP.stationRead _ _ h
  | spurEntry i => exact h
  | driveReady => exact h

theorem deliverLead (x) (h : P s) : P (s.deliverLead x) := by
  unfold State.deliverLead
  split
  · exact hP.finish (hP.takeLead _ h)
  · exact h

theorem deliverTrail (x) (h : P s) : P (s.deliverTrail x) := by
  unfold State.deliverTrail
  split
  · exact hP.finish (hP.takeTrail _ h)
  · exact h

theorem deliverRead (x r) (h : P s) : P (s.deliverRead x r) := by
  unfold State.deliverRead
  split
  · exact hP.finish (hP.takeRead _ _ h)
  · exact h

theorem lead (x) (h : P s) : P (s.lead x) := by
  unfold State.lead
  split
  · unfold State.leadWithSlot
    split
    · exact hP.deliverLead _ (hP.setSlot _ _ h)
    · exact hP.deliverLead _ (hP.deliverRead _ _ (hP.setSlot _ _ h))
    · exact hP.deliverRead _ _ (hP.deliverLead _ (hP.setSlot _ _ h))
  · exact hP.deliverLead _ h

theorem countCarrier (l c) (h : P s) : P (s.countCarrier l c) := by
  have front : ∀ s : State, P s → P (s.countFront c) := by
    intro s h
    unfold State.countFront
    dsimp only
    have h1 := hP.modCar c (fun r => { r with passage := { r.passage with n := satInc 4095 (s.car c).passage.n } }) h
    split <;> split
    · exact hP.checkStretch _ (hP.applyDriveOf _ h1)
    · exact hP.checkStretch _ h1
    · exact hP.applyDriveOf _ h1
    · exact h1
  have tail : ∀ s : State, P s → P (s.countTail c) := by
    intro s h
    unfold State.countTail
    dsimp only
    have h1 := hP.modCar c (fun r => { r with passage := { r.passage with t := satInc 4095 (s.car c).passage.t } }) h
    split
    · exact hP.checkWatch _ h1
    · exact h1
  unfold State.countCarrier
  dsimp only
  split <;> split
  · exact tail _ (front _ h)
  · exact tail _ h
  · exact front _ h
  · exact h

theorem stepPulse (h : P s) : P s.stepPulse := by
  unfold State.stepPulse
  dsimp only
  refine fold _ (fun s c h => hP.countCarrier _ c h) _ (hP.setJog _ ?_)
  split
  · exact hP.modSurvey _ (hP.gen s _ h)
  · exact hP.modSurvey _ (hP.gen s _ h)

theorem endSweep (v) (h : P s) : P (s.endSweep v) := by
  unfold State.endSweep
  split
  · exact hP.surveyFail _ _ h
  · split
    · exact hP.surveyFail _ _ h
    · exact hP.trackAll _ h

theorem endWarmup (h : P s) : P s.endWarmup := by
  unfold State.endWarmup
  split
  · exact hP.beginSweep h
  · exact hP.completeResume _ (hP.changeMode _ h)
  · exact hP.completeResume _ (hP.changeMode _ h)

end Inert

/-! ## What an operation of the track leaves -/

/-- What no operation of the track writes: the commands that wait, the stop map, the framing, the time base, and the line unit
but for its slots and latches. -/
structure State.Stays (s t : State) : Prop where
  pending : t.pending = s.pending
  map : t.map = s.map
  framing : t.framing = s.framing
  time : t.time = s.time
  pins : t.line.pins = s.line.pins
  filters : t.line.filters = s.line.filters
  tagHalf : t.line.tagHalf = s.line.tagHalf
  tagBreak : t.line.tagBreak = s.line.tagBreak
  stray : t.line.stray = s.line.stray

/-- A state stays as it is. -/
theorem State.Stays.refl (s : State) : s.Stays s := ⟨rfl, rfl, rfl, rfl, rfl, rfl, rfl, rfl, rfl⟩

/-- Every operation of the track keeps what `Stays` names. -/
theorem inert_stays (s : State) : Inert s.Stays where
  secs _ _ h := ⟨h.1, h.2, h.3, h.4, h.5, h.6, h.7, h.8, h.9⟩
  stations _ _ h := ⟨h.1, h.2, h.3, h.4, h.5, h.6, h.7, h.8, h.9⟩
  cars _ _ h := ⟨h.1, h.2, h.3, h.4, h.5, h.6, h.7, h.8, h.9⟩
  disp _ _ h := ⟨h.1, h.2, h.3, h.4, h.5, h.6, h.7, h.8, h.9⟩
  track _ _ h := ⟨h.1, h.2, h.3, h.4, h.5, h.6, h.7, h.8, h.9⟩
  gen _ _ h := ⟨h.1, h.2, h.3, h.4, h.5, h.6, h.7, h.8, h.9⟩
  freeCount _ _ h := ⟨h.1, h.2, h.3, h.4, h.5, h.6, h.7, h.8, h.9⟩
  latches _ _ h := ⟨h.1, h.2, h.3, h.4, h.5, h.6, h.7, h.8, h.9⟩
  slots _ _ h := ⟨h.1, h.2, h.3, h.4, h.5, h.6, h.7, h.8, h.9⟩
  notice _ _ _ _ _ h := ⟨h.1, h.2, h.3, h.4, h.5, h.6, h.7, h.8, h.9⟩
  removeOrder _ _ h := ⟨h.1, h.2, h.3, h.4, h.5, h.6, h.7, h.8, h.9⟩
  modOrder _ _ _ _ h := ⟨h.1, h.2, h.3, h.4, h.5, h.6, h.7, h.8, h.9⟩

/-- What follows an event keeps what `Stays` names. -/
theorem State.finish_stays (s : State) : s.Stays s.finish := (inert_stays s).finish (.refl s)

/-- What follows an event leaves the stop map. -/
@[simp] theorem State.finish_map (s : State) : s.finish.map = s.map := s.finish_stays.map

/-- What follows an event leaves the commands that wait. -/
@[simp] theorem State.finish_pending (s : State) : s.finish.pending = s.pending := s.finish_stays.pending

/-- A change of mode leaves the stop map. -/
@[simp] theorem State.changeMode_map (s : State) (m : Mode) : (s.changeMode m).map = s.map :=
  ((inert_stays s).changeMode m (.refl s)).map

end Sys2Proof.Machine
end

