-- ==== Sys2Proof/Laws/Links.lean ====
section
/-! SUPPORT. What a notice and an answer do to a link unit, and what the operations of the track do to it: they queue notices or
drop them, and leave the rest. -/

namespace Sys2Proof.Machine

/-! ## Notices and answers -/

/-- The number of notices in a list of messages. -/
def noticesIn (ms : List TxMsg) : Nat := ms.countP fun m => !m.isAnswer

/-- The notice count of a unit is the number of notices in its transmit queue. -/
theorem LinkUnit.noticeCount_eq (u : LinkUnit) : u.noticeCount = noticesIn u.tx := by
  unfold LinkUnit.noticeCount noticesIn
  congr 1
  funext m
  cases h : m.kind <;> simp [TxMsg.isAnswer, h]

/-- What a link unit may become while the track is at work: notices are appended within their 12 places, or dropped and counted;
nothing else of it changes. -/
structure LinkUnit.Notified (u v : LinkUnit) : Prop where
  assembler : v.assembler = u.assembler
  brk : v.brk = u.brk
  held : v.held = u.held
  counts : v.counts = { u.counts with dropped := v.counts.dropped }
  dropped : u.counts.dropped ≤ 255 → v.counts.dropped ≤ 255
  tx : ∃ ms, v.tx = u.tx ++ ms ∧ ∀ m ∈ ms, m.isAnswer = false
  places : u.noticeCount ≤ Config.noticePlaces → v.noticeCount ≤ Config.noticePlaces

/-- A unit that changes not at all. -/
theorem LinkUnit.Notified.refl (u : LinkUnit) : u.Notified u :=
  ⟨rfl, rfl, rfl, rfl, id, ⟨[], by simp, by simp⟩, id⟩

/-- One change after another. -/
theorem LinkUnit.Notified.trans {u v w : LinkUnit} (h : u.Notified v) (k : v.Notified w) : u.Notified w := by
  obtain ⟨ms, hm, ha⟩ := h.tx
  obtain ⟨ns, hn, hb⟩ := k.tx
  refine ⟨k.assembler.trans h.assembler, k.brk.trans h.brk, k.held.trans h.held, ?_, k.dropped ∘ h.dropped, ⟨ms ++ ns, ?_, ?_⟩,
    k.places ∘ h.places⟩
  · rw [k.counts, h.counts]
  · rw [hn, hm, List.append_assoc]
  · intro m hmem
    rcases List.mem_append.mp hmem with h' | h'
    · exact ha m h'
    · exact hb m h'

/-- A notice is queued or dropped (R182). -/
theorem LinkUnit.notice_notified (u : LinkUnit) (n : NoticeKind) (tag : Byte) (body : List Byte) :
    u.Notified (u.notice ⟨.notice n, tag, body⟩) := by
  unfold LinkUnit.notice
  split
  · next h =>
    refine ⟨rfl, rfl, rfl, rfl, id, ⟨[⟨.notice n, tag, body⟩], rfl, by simp [TxMsg.isAnswer]⟩, fun _ => ?_⟩
    rw [LinkUnit.noticeCount_eq] at h ⊢
    simp only [noticesIn, List.countP_append, List.countP_cons, List.countP_nil, TxMsg.isAnswer] at h ⊢
    simp at h ⊢
    omega
  · refine ⟨rfl, rfl, rfl, rfl, ?_, ⟨[], by simp, by simp⟩, id⟩
    intro h
    show min (u.counts.dropped + 1) 255 ≤ 255
    omega

/-- What every operation of the track does to the three link units. -/
theorem inert_notified (s : State) : Inert fun t => ∀ l, (s.link l).Notified (t.link l) where
  secs _ _ h := h
  stations _ _ h := h
  cars _ _ h := h
  disp _ _ h := h
  track _ _ h := h
  gen _ _ h := h
  freeCount _ _ h := h
  latches _ _ h := h
  slots _ _ h := h
  removeOrder _ _ h := h
  modOrder _ _ _ _ h := h
  notice t l k tag body h m := by
    refine (h m).trans ?_
    by_cases e : l = m
    · subst e
      show (t.link l).Notified ((t.notice l k tag body).link l)
      rw [State.notice, State.link_modLink]
      exact LinkUnit.notice_notified ..
    · have : (t.notice l k tag body).link m = t.link m := Links.get_set_ne _ _ e
      rw [this]
      exact .refl _

/-- An answer is one message more in the transmit queue, and changes nothing else (R179, R182). -/
theorem State.answer_link (s : State) (r : Req) (k : AnswerKind) (body : List Byte) :
    (s.answer r k body).link r.link =
      { (s.link r.link) with tx := (s.link r.link).tx ++ [⟨.answer k, r.tag, body⟩] } := State.link_modLink ..

/-- Taking a request and answering it is the reply. -/
theorem State.answer_take (s : State) (l : Link) (tag : Byte) (b : List Byte) (k : AnswerKind) (body : List Byte) :
    (s.take l).answer ⟨l, tag, b⟩ k body = s.replied l k tag body := by
  simp [State.answer, State.take, State.modLink, State.replied, State.withLink, State.link, LinkUnit.replied]

/-! ## Requests -/

/-- A request that waits and that its link may make is judged by its owning block (R179). -/
theorem State.request_permitted {s : State} {k : ReqKind} {l : Link} {tag : Byte} {body : List Byte}
    (judge : Req → State → Verdict) (h : s.offers l k tag body) (hk : k.permitted l = true) :
    s.request k l judge = (judge ⟨l, tag, body⟩ (s.take l)).run (s.take l) ⟨l, tag, body⟩ := by
  have h' : s.waiting l = some ⟨k.code, tag, body, false⟩ := h
  simp [State.request, h', hk]

/-- Taking a request changes nothing but its link's request places. -/
theorem State.take_eq (s : State) (l : Link) :
    s.take l = { s with links := s.links.set l { (s.links.get l) with held := takeFirst (s.links.get l).held } } := rfl

/-! ## The states that the statements name -/

@[simp] theorem State.withSurvey_pending (s : State) (v : SurveyRec) : (s.withSurvey v).pending = s.pending := rfl
@[simp] theorem State.withSurvey_freeCount (s : State) (v : SurveyRec) : (s.withSurvey v).freeCount = s.freeCount := rfl
@[simp] theorem State.withSurvey_framing (s : State) (v : SurveyRec) : (s.withSurvey v).framing = s.framing := rfl
@[simp] theorem State.withSurvey_map (s : State) (v : SurveyRec) : (s.withSurvey v).map = s.map := rfl
@[simp] theorem State.withSurvey_line (s : State) (v : SurveyRec) : (s.withSurvey v).line = s.line := rfl
@[simp] theorem State.withSurvey_gen (s : State) (v : SurveyRec) : (s.withSurvey v).gen = s.gen := rfl
@[simp] theorem State.withSurvey_time (s : State) (v : SurveyRec) : (s.withSurvey v).time = s.time := rfl
@[simp] theorem State.withSurvey_secs (s : State) (v : SurveyRec) : (s.withSurvey v).secs = s.secs := rfl
@[simp] theorem State.withSurvey_stations (s : State) (v : SurveyRec) : (s.withSurvey v).stations = s.stations := rfl
@[simp] theorem State.withSurvey_cars (s : State) (v : SurveyRec) : (s.withSurvey v).cars = s.cars := rfl
@[simp] theorem State.withSurvey_book (s : State) (v : SurveyRec) : (s.withSurvey v).book = s.book := rfl
@[simp] theorem State.withSurvey_disp (s : State) (v : SurveyRec) : (s.withSurvey v).disp = s.disp := rfl
@[simp] theorem State.withSurvey_links (s : State) (v : SurveyRec) : (s.withSurvey v).links = s.links := rfl
@[simp] theorem State.withSurvey_survey (s : State) (v : SurveyRec) : (s.withSurvey v).track.survey = some v := rfl

@[simp] theorem State.accepted_pending (s : State) (x : Sensor) : (s.accepted x).pending = s.pending := rfl
@[simp] theorem State.accepted_freeCount (s : State) (x : Sensor) : (s.accepted x).freeCount = s.freeCount := rfl
@[simp] theorem State.accepted_framing (s : State) (x : Sensor) : (s.accepted x).framing = s.framing := rfl
@[simp] theorem State.accepted_map (s : State) (x : Sensor) : (s.accepted x).map = s.map := rfl
@[simp] theorem State.accepted_gen (s : State) (x : Sensor) : (s.accepted x).gen = s.gen := rfl
@[simp] theorem State.accepted_time (s : State) (x : Sensor) : (s.accepted x).time = s.time := rfl
@[simp] theorem State.accepted_secs (s : State) (x : Sensor) : (s.accepted x).secs = s.secs := rfl
@[simp] theorem State.accepted_stations (s : State) (x : Sensor) : (s.accepted x).stations = s.stations := rfl
@[simp] theorem State.accepted_cars (s : State) (x : Sensor) : (s.accepted x).cars = s.cars := rfl
@[simp] theorem State.accepted_book (s : State) (x : Sensor) : (s.accepted x).book = s.book := rfl
@[simp] theorem State.accepted_disp (s : State) (x : Sensor) : (s.accepted x).disp = s.disp := rfl
@[simp] theorem State.accepted_links (s : State) (x : Sensor) : (s.accepted x).links = s.links := rfl
@[simp] theorem State.accepted_track (s : State) (x : Sensor) : (s.accepted x).track = s.track := rfl

end Sys2Proof.Machine
end

