-- ==== Sys2Proof/Laws/PerInstr.lean ====
section
/-! SUPPORT. Statements about every command as syntax, one lemma for each constructor. -/

namespace Sys2Proof

/-- The sensor pins a command names, in the order it names them. -/
def Instr.pins : Instr → List Sensor
  | .powerOnReset high _ | .pinReset high _ | .reset _ high _ | .millisecondEvent high => high
  | _ => []

/-- No sensor is listed twice exactly when the list has no repeats. -/
theorem distinctPins_iff (xs : List Sensor) : distinctPins xs = true ↔ xs.Nodup := by
  induction xs with
  | nil => simp [distinctPins]
  | cons x xs ih => simp [distinctPins, ih, List.nodup_cons]

namespace Laws.Pins

/-- A command is complained of for its pins exactly when it names one twice. -/
def Statement (i : Instr) : Prop := i.complaint = some .repeatedPin ↔ ¬ i.pins.Nodup

/-- A command without operands that can be complained of. -/
theorem of_none : (none : Option Complaint) = some .repeatedPin ↔ ¬ ([] : List Sensor).Nodup := by simp

/-- A command that names no pins and can be complained of for another reason. -/
theorem of_other (b : Bool) (x y : Option Complaint) (hx : x ≠ some .repeatedPin) (hy : y ≠ some .repeatedPin) :
    (if b then x else y) = some .repeatedPin ↔ ¬ ([] : List Sensor).Nodup := by
  cases b <;> simp [hx, hy]

/-- A command that names pins. -/
theorem of_pins (high : List Sensor) :
    (if distinctPins high then (none : Option Complaint) else some .repeatedPin) = some .repeatedPin ↔ ¬ high.Nodup := by
  rw [← distinctPins_iff]
  cases distinctPins high <;> simp

theorem powerOnReset (high : List Sensor) (straps : Straps) : Statement (.powerOnReset high straps) := of_pins high

theorem pinReset (high : List Sensor) (straps : Straps) : Statement (.pinReset high straps) := of_pins high

theorem messageReceived (l : Link) (chars : List Byte) :
    Statement (.messageReceived l chars) := of_other _ _ _ (by decide) (by decide)

theorem lengthAbove20 (l : Link) (chars : List Byte) :
    Statement (.lengthAbove20 l chars) := of_other _ _ _ (by decide) (by decide)

theorem messageGap (l : Link) (chars : List Byte) : Statement (.messageGap l chars) := of_none

theorem characterError (l : Link) (chars : List Byte) (parityBad stopBad : Bool) :
    Statement (.characterError l chars parityBad stopBad) := of_other _ _ _ (by decide) (by decide)

theorem linkBreak (l : Link) (chars : List Byte) : Statement (.linkBreak l chars) := of_none

theorem transmitComplete (l : Link) : Statement (.transmitComplete l) := of_none

theorem unknownKind (l : Link) : Statement (.unknownKind l) := of_none

theorem place (l : Link) : Statement (.place l) := of_none

theorem cancel (l : Link) : Statement (.cancel l) := of_none

theorem expedite (l : Link) : Statement (.expedite l) := of_none

theorem taken (l : Link) : Statement (.taken l) := of_none

theorem query (l : Link) : Statement (.query l) := of_none

theorem loaded (l : Link) : Statement (.loaded l) := of_none

theorem short (l : Link) : Statement (.short l) := of_none

theorem endorse (l : Link) : Statement (.endorse l) := of_none

theorem closeStation (l : Link) : Statement (.closeStation l) := of_none

theorem openStation (l : Link) : Statement (.openStation l) := of_none

theorem setMode (l : Link) : Statement (.setMode l) := of_none

theorem settle (l : Link) : Statement (.settle l) := of_none

theorem resume (l : Link) : Statement (.resume l) := of_none

theorem recover (l : Link) : Statement (.recover l) := of_none

theorem survey (l : Link) : Statement (.survey l) := of_none

theorem reset (l : Link) (high : List Sensor) (straps : Straps) : Statement (.reset l high straps) := of_pins high

theorem clearCause (l : Link) : Statement (.clearCause l) := of_none

theorem admitCarrier (l : Link) : Statement (.admitCarrier l) := of_none

theorem retire (l : Link) : Statement (.retire l) := of_none

theorem clearCarrier (l : Link) : Statement (.clearCarrier l) := of_none

theorem jog (l : Link) : Statement (.jog l) := of_none

theorem mapOpen (l : Link) : Statement (.mapOpen l) := of_none

theorem mapWrite (l : Link) : Statement (.mapWrite l) := of_none

theorem mapRead (l : Link) : Statement (.mapRead l) := of_none

theorem mapClose (l : Link) : Statement (.mapClose l) := of_none

theorem readTrack (l : Link) : Statement (.readTrack l) := of_none

theorem readSection (l : Link) : Statement (.readSection l) := of_none

theorem readStation (l : Link) : Statement (.readStation l) := of_none

theorem readCarrier (l : Link) : Statement (.readCarrier l) := of_none

theorem readLines (l : Link) : Statement (.readLines l) := of_none

theorem readLink (l : Link) : Statement (.readLink l) := of_none

theorem millisecondEvent (high : List Sensor) : Statement (.millisecondEvent high) := of_pins high

theorem sensorLevelAccepted (x : Sensor) : Statement (.sensorLevelAccepted x) := of_none

theorem tagReport (chars : List Byte) : Statement (.tagReport chars) := of_other _ _ _ (by decide) (by decide)

theorem tagReportTimeout (chars : List Byte) : Statement (.tagReportTimeout chars) := of_none

theorem tagCharacterError (chars : List Byte) : Statement (.tagCharacterError chars) := of_none

theorem tagPortBreak (chars : List Byte) : Statement (.tagPortBreak chars) := of_none

theorem readWindowExpiry (r : ReaderId) : Statement (.readWindowExpiry r) := of_none

theorem stepEvent : Statement .stepEvent := of_none

theorem jogComplete : Statement .jogComplete := of_none

theorem secondEvent : Statement .secondEvent := of_none

theorem autoparkExpiry : Statement .autoparkExpiry := of_none

theorem warmupEnd : Statement .warmupEnd := of_none

theorem warmupDriveFail : Statement .warmupDriveFail := of_none

theorem sweepEnd : Statement .sweepEnd := of_none

theorem spurCleared (i : StationId) : Statement (.spurCleared i) := of_none

theorem linkLineReturnsToMark (l : Link) : Statement (.linkLineReturnsToMark l) := of_none

theorem tagPortReturnsToMark : Statement .tagPortReturnsToMark := of_none

end Laws.Pins

end Sys2Proof
end

