-- ==== Sys2Proof/Tests/Slice0.lean ====
section
/-! SUPPORT. Tests: ill-formed commands refused by name, values the manual's tables and examples give, single commands on small
states, and, for every statement with hypotheses, states that meet them, clause by clause. -/

namespace Sys2Proof.Tests

open Sys2Proof.Machine

/-! ## Small states -/

/-- A VALID map of 8 sections: a STOCK station at junction 0, a COUNTER at 2, DEPOTs at 4 and 6; window 1 at the counter; bins 0..3000
and, restricted, 3001..4000 at the stock station. -/
def testMap : StopMap :=
  { StopMap.reset with
    state := .valid
    loop := some ⟨8, 0⟩
    sections := Vector.ofFn fun k => if k.val < 8 then some ⟨64, .activeHigh⟩ else none
    stations := Vector.ofFn fun i =>
      if i.val = 0 then some ⟨.stock, 0, 1, 48, 16, .activeHigh, .activeHigh⟩
      else if i.val = 1 then some ⟨.counter, 2, 3, 48, 16, .activeHigh, .activeHigh⟩
      else if i.val = 2 ∨ i.val = 3 then some ⟨.depot, ⟨2 * i.val, by omega⟩, 8, 48, 16, .activeHigh, .activeHigh⟩
      else none
    windows := Vector.ofFn fun w => if w.val = 0 then some 1 else none
    bins := Vector.ofFn fun e =>
      if e.val = 0 then some ⟨0, 3000, 0, false⟩ else if e.val = 1 then some ⟨3001, 4000, 0, true⟩ else none }

/-- The part with the test map, in PARK. -/
def track : State :=
  { State.reset with
    map := testMap
    stations := Vector.ofFn fun i => (StationRec.resetWith none 0 0).adopt (tget testMap.stations i) }

/-- A state in a mode. -/
def inMode (s : State) (m : Mode) : State := { s with track := { s.track with mode := m } }

/-- A state with one request held on a link. -/
def ask (s : State) (l : Link) (k : ReqKind) (tag : Byte) (body : List Byte) : State :=
  s.withLink l { (s.link l) with held := [⟨k.code, tag, body, false⟩] }

/-- The request is offered. -/
theorem ask_offers (s : State) (l : Link) (k : ReqKind) (tag : Byte) (body : List Byte) :
    (ask s l k tag body).offers l k tag body := by
  cases l <;> rfl

/-- One state in which a request is offered and a statement's other hypotheses hold. -/
def Offered (s : State) (l : Link) (k : ReqKind) (tag : Byte) (body : List Byte) (p : State → Prop) : Prop :=
  (ask s l k tag body).offers l k tag body ∧ p (ask s l k tag body)

/-- An offered request with its other hypotheses. -/
theorem offered {s : State} {l : Link} {k : ReqKind} {tag : Byte} {body : List Byte} {p : State → Prop}
    (h : p (ask s l k tag body)) : Offered s l k tag body p := ⟨ask_offers .., h⟩

/-- An order of one line at the stock station, in a state. -/
def order (x : OrderState) : Order :=
  { ticket := 1, origin := .counter, originTag := 9, window := 1, counter := 1, cls := .standard,
    lines := [⟨5, 1, 0, false, .pending⟩], stops := [0], nextStop := 0, restricted := false, state := x, carrier := some 3, age := 0 }

/-- The same order with its line LOADED. -/
def loadedOrder (x : OrderState) : Order := { (order x) with lines := [⟨5, 1, 0, false, .loaded⟩] }

/-- The same order, placed on the service link. -/
def serviceOrder (x : OrderState) : Order := { (order x) with origin := .service }

/-- The test track with one order. -/
def booked (o : Order) : State := { track with book := ⟨[o], 2⟩ }

/-- The test track with its map in EDIT. -/
def editing : State := { track with map := { testMap with state := .edit } }

/-- A carrier record in a state and a place. -/
def carrier (x : CarState) (p : Place) : CarrierRec := { CarrierRec.reset with state := x, place := p }

/-- A state with one carrier's record. -/
def withCar (s : State) (c : CarrierId) (r : CarrierRec) : State := { s with cars := { s.cars with recs := tset s.cars.recs c r } }

/-- A state with one sensor's new level due. -/
def due (s : State) (x : Sensor) (level : Bool) : State := s.setFilter x ⟨level, 4, true⟩

/-- A state with a survey record. -/
def surveying (v : SurveyRec) : State :=
  { (inMode track .survey) with track := { (inMode track .survey).track with survey := some v, completion := .survey 6#8 } }

/-- The next state of an outcome; a fault and a refusal have none. -/
def next : Host.Outcome State Fault Refusal → Option State
  | .next t => some t
  | _ => none

/-! ## Ill-formed commands -/

theorem test_wf_repeated_pin : Instr.complaint (.millisecondEvent [.driveReady, .driveReady]) = some .repeatedPin := by decide
theorem test_wf_repeated_pin_reset : Instr.complaint (.pinReset [.dock 0, .dock 0] ⟨7, 0⟩) = some .repeatedPin := by decide
theorem test_wf_no_character : Instr.complaint (.messageReceived .counter []) = some .noCharacter := by decide
theorem test_wf_no_tag_character : Instr.complaint (.tagReport []) = some .noCharacter := by decide
theorem test_wf_no_error : Instr.complaint (.characterError .stock [] false false) = some .noError := by decide
theorem test_wf_good : Instr.wf (.millisecondEvent [.driveReady, .entry 3]) = true := by decide

/-! ## Values of the manual's tables and examples -/

/-- The worked CANCEL of ticket 512 with tag 11h, its two possible answers and their check bytes (10.10). -/
theorem test_envelope_cancel : envelope 0x02#8 0x11#8 [2#8, 0#8] = [0xD3#8, 2#8, 0x11#8, 2#8, 2#8, 0#8, 0xE9#8] := by decide
theorem test_envelope_refused : TxMsg.bytes ⟨.answer .refused, 0x11#8, [8#8]⟩ = [0xD3#8, 0x83#8, 0x11#8, 1#8, 8#8, 0x63#8] := by
  decide
theorem test_envelope_done : TxMsg.bytes ⟨.answer .done, 0x11#8, []⟩ = [0xD3#8, 0x80#8, 0x11#8, 0#8, 0x6F#8] := by decide

/-- Rows of the budget table (R43), with slack 10 and margin 4 or 50 and 10. -/
theorem test_budget_600_class_2 : Params.default.budget 2 600 = 708 := by decide
theorem test_budget_96 : Params.default.budget 0 96 = 106 := by decide
theorem test_budget_clamped : Params.budget { Params.default with slack := 50, loadMargin := 10 } 3 2276 = 4095 := by decide

/-- Trail budgets with the default carrier length (R48). -/
theorem test_trail_budget : (Params.default.trailBudget 0, Params.default.trailBudget 2) = (44, 48) := by decide

/-- Divisors (R36). -/
theorem test_divisors : (Rate.divisor ⟨2, 0⟩, Rate.divisor ⟨5, 96⟩, Rate.divisor ⟨6, 96⟩) = (1024, 5120, 10240) := by decide

/-- Numbering across the wrap (7.1): 65535, then 3 with 1 and 2 in use. -/
theorem test_ticket_wrap :
    (nextTicket 65535, OrderBook.ticket ⟨[order .queued, { (order .queued) with ticket := 2 }], 1⟩) = (1, 3) := by decide

/-- The bin lookup of the test map at the ends of its ranges (R19). -/
theorem test_bin_lookup :
    ((testMap.binLookup 3000).map (·.restricted), (testMap.binLookup 3001).map (·.restricted), testMap.binLookup 4001) =
      (some false, some true, none) := by decide

/-- The tracks' map passes every check of MAP_CLOSE (R16). -/
theorem test_map_passes : track.firstFailure = none := by decide

/-- Even parity on a byte with three ones, and odd parity on the same (R175). -/
theorem test_parity_bits : (frameBits ⟨0, 1⟩ 7#8)[9]? = some true ∧ (frameBits ⟨0, 2⟩ 7#8)[9]? = some false := by decide

/-! ## Single commands -/

/-- A power-on reset with E_0 high: its filter starts accepted at high, and RESTARTED tells of POWER (R35, R185). -/
theorem test_power_on :
    (next (exec (.powerOnReset [.entry 0] ⟨7, 0⟩) track)).map (fun t => ((t.filter (.entry 0)).accepted, t.links.stock.tx)) =
      some (true, [⟨.notice .restarted, 0#8, [1#8]⟩]) := by decide

/-- A CANCEL is assembled from the characters of the manual's example (10.10). -/
theorem test_message_received :
    (next (exec (.messageReceived .counter [0xD3#8, 2#8, 0x11#8, 2#8, 2#8, 0#8, 0xE9#8]) State.reset)).map (·.links.counter.held) =
      some [⟨2#8, 0x11#8, [2#8, 0#8], false⟩] := by decide

/-- A D3h within a message is data (R177). -/
theorem test_mark_is_data :
    (next (exec (.messageReceived .counter (envelope 5#8 0xD3#8 [0xD3#8])) State.reset)).map (·.links.counter.held) =
      some [⟨5#8, 0xD3#8, [0xD3#8], false⟩] := by decide

/-- An unknown kind is BAD_FORMAT even on the service link (R179). -/
theorem test_unknown_kind :
    (next (exec (.unknownKind .service) (State.reset.withLink .service
      { (State.reset.link .service) with held := [⟨0x40#8, 3#8, [], false⟩] }))).map (fun t => t.links.service.tx.drop 1) =
      some [⟨.answer .refused, 3#8, [2#8]⟩] := by decide

/-- MAP_OPEN after power-on enters EDIT (1.6). -/
theorem test_map_open : (next (exec (.mapOpen .service) (ask State.reset .service .mapOpen 1#8 []))).map (·.map.state) = some .edit := by
  decide

/-- A RUN track in which SETTLE with selector HOLD rests (R157). -/
theorem test_settle :
    (next (exec (.settle .service) (ask (inMode track .run) .service .settle 1#8 []))).map (·.track.mode) = some .hold := by
  decide

/-- RESUME from PARK begins a warm-up with W as written (R158, R159). -/
theorem test_resume :
    (next (exec (.resume .service) (ask track .service .resume 4#8 []))).map (fun t => (t.track.mode, t.track.completion, t.track.warmW)) =
      some (.warmup, .resume 4#8, 50) := by decide

/-- PLACE takes ticket 1 and leaves the counter at 2 (R121, R123). -/
theorem test_place :
    (next (exec (.place .counter) (ask track .counter .place 8#8 [1#8, 0#8, 1#8, 0#8, 5#8, 2#8]))).map
      (fun t => (t.book.counter, t.book.orders.map fun o => (o.ticket, o.state), t.links.counter.tx.drop 1)) =
      some (2, [(1, .queued)], [⟨.answer .deferred, 8#8, [0#8, 1#8]⟩]) := by decide

/-- The fourth sample of a new level with F = 3 makes it due (R21). -/
theorem test_filter_accepts : (Filter.sample ⟨false, 3, false⟩ 3 true, Filter.sample ⟨false, 2, false⟩ 3 true) =
    (⟨false, 4, true⟩, ⟨false, 3, false⟩) := by decide

/-! ## States that meet the statements' hypotheses -/

theorem witness_StepRunsTheFrontCommand :
    ({ track with pending := [.stepEvent, .secondEvent] } : State).pending = .stepEvent :: [.secondEvent] ∧ track.pending = [] :=
  ⟨rfl, rfl⟩

/-- 20 body bytes; with no request held and with four. -/
theorem witness_MessageTakesAPlace :
    (List.replicate 20 0xFF#8).length ≤ 20 ∧ (track.link .counter).brk = false ∧ (track.link .counter).assembler = .hunting ∧
      (track.link .counter).held.length < 4 ∧
      ¬ ((track.withLink .counter { (track.link .counter) with held := List.replicate 4 ⟨1#8, 0#8, [], false⟩ }).link
        .counter).held.length < 4 := by decide

/-- A length byte of 21; a body of 20 bytes with a check byte that is off by one; and an empty one. -/
theorem witness_BadMessagesAreDiscarded :
    (track.link .stock).brk = false ∧ (track.link .stock).assembler = .hunting ∧ 20 < (21#8).toNat ∧ (20#8).toNat ≤ 20 ∧
      (List.replicate 20 0#8).length = (20#8).toNat ∧
      (1#8 :: 2#8 :: 20#8 :: List.replicate 20 0#8).foldl (· + ·) 0#8 + 232#8 ≠ 0#8 ∧
      (0#8).toNat ≤ 20 ∧ [1#8, 2#8, 0#8].foldl (· + ·) 0#8 + 254#8 ≠ 0#8 := by decide

/-- A message begun; none begun; parity strapped on; and a line in a break. -/
theorem witness_LineErrorsDiscardMessages :
    (∃ cs, ((track.link .counter).chars [0xD3#8, 1#8]).assembler = .assembling cs) ∧
      ((track.link .counter).chars [0xD3#8, 1#8]).brk = false ∧ ((track.link .counter).chars []).assembler = .hunting ∧
      ({ track with framing := ⟨0, 1⟩ } : State).framing.parity = 1 ∧
      ((track.withLink .counter { (track.link .counter) with brk := true }).link .counter).brk = true :=
  ⟨⟨_, rfl⟩, rfl, rfl, rfl, rfl⟩

theorem witness_TransmissionFreesPlaces :
    (track.link .stock).tx = ⟨.notice .restarted, 0#8, [1#8]⟩ :: [] ∧
      ((track.replied .stock .done 1#8 []).link .stock).tx = ⟨.notice .restarted, 0#8, [1#8]⟩ :: [⟨.answer .done, 1#8, []⟩] :=
  ⟨rfl, rfl⟩

/-- Kind 40h; JOG on the counter link; a MAP_OPEN and a SHORT of one byte; part 2 of a QUERY; a LOADED and a SHORT at station 13, and a
SHORT with mask 16; tickets that no order has; and carrier 16. -/
theorem witness_LinkUnitRefusals :
    ((track.withLink .stock { (track.link .stock) with held := [⟨0x40#8, 3#8, [], false⟩] }).waiting .stock =
        some ⟨0x40#8, 3#8, [], false⟩ ∧ ∀ k, ReqKind.code k ≠ 0x40#8) ∧
      (Offered track .counter .jog 1#8 [] fun _ => ReqKind.permitted .jog .counter = false) ∧
      (Offered track .service .mapOpen 1#8 [0#8] fun _ => ReqKind.permitted .mapOpen .service = true ∧ [0#8].length ≠ 0) ∧
      (Offered track .stock .short 1#8 [0#8] fun _ => ReqKind.permitted .short .stock = true ∧ [0#8].length ≠ 4) ∧
      (Offered track .counter .query 1#8 [0#8, 1#8, 2#8] fun _ => ReqKind.permitted .query .counter = true ∧ 2 ≤ (2#8).toNat) ∧
      (Offered track .stock .loaded 1#8 [0#8, 1#8, 13#8, 0#8] fun _ =>
        ReqKind.permitted .loaded .stock = true ∧ 13 ≤ (13#8).toNat) ∧
      (Offered track .stock .short 1#8 [0#8, 1#8, 12#8, 16#8] fun _ => 16 ≤ (16#8).toNat) ∧
      (Offered track .stock .short 1#8 [0#8, 1#8, 12#8, 15#8] fun s =>
        ¬ (12#8 = 0#8 ∨ 13 ≤ (12#8).toNat ∨ 16 ≤ (15#8).toNat) ∧ s.orderOf 1 = none) ∧
      (Offered track .counter .taken 1#8 [0#8, 0#8] fun s =>
        ReqKind.permitted .taken .counter = true ∧ s.orderOf ((0#8).toNat * 256 + (0#8).toNat) = none) ∧
      Offered track .service .retire 1#8 [16#8] fun _ => ReqKind.permitted .retire .service = true ∧ 16 ≤ (16#8).toNat :=
  ⟨⟨rfl, fun k => by cases k <;> decide⟩, offered rfl, offered (by decide), offered (by decide), offered (by decide),
    offered (by decide), offered (by decide), offered (by decide), offered (by decide), offered (by decide)⟩

/-- A request refused, and one answered BUSY. -/
theorem witness_RefusalChangesNothing :
    (∃ t m, exec (ReqKind.command .jog .counter [] ⟨0, 0⟩) (ask track .counter .jog 1#8 []) = .next t ∧
        (t.link .counter).tx[((ask track .counter .jog 1#8 []).link .counter).tx.length]? = some m ∧ m.kind = .answer .refused) ∧
      ∃ t m, exec (ReqKind.command .resume .service [] ⟨0, 0⟩) (ask State.reset .service .resume 1#8 []) = .next t ∧
        (t.link .service).tx[((ask State.reset .service .resume 1#8 []).link .service).tx.length]? = some m ∧
        m.kind = .answer .busy :=
  ⟨⟨_, _, rfl, rfl, rfl⟩, ⟨_, _, rfl, rfl, rfl⟩⟩

theorem witness_Resets :
    (ask track .service .reset 1#8 []).offers .service .reset 1#8 [] ∧
      (ask track .service .reset 1#8 [0#8]).offers .service .reset 1#8 (0#8 :: []) := ⟨ask_offers .., ask_offers ..⟩

theorem witness_ResetEmptiesTheBook :
    (∃ t, exec (.powerOnReset [] ⟨7, 0⟩) track = .next t) ∧ (∃ t, exec (.pinReset [] ⟨7, 0⟩) (booked (order .queued)) = .next t) ∧
      (ask track .service .reset 1#8 []).offers .service .reset 1#8 [] ∧
      ∃ t, exec (.reset .service [] ⟨7, 0⟩) (ask track .service .reset 1#8 []) = .next t :=
  ⟨⟨_, rfl⟩, ⟨_, rfl⟩, ask_offers .., ⟨_, rfl⟩⟩

/-- INVALID, EDIT, VALID at rest, and VALID with the track in RUN. -/
theorem witness_MapOpen :
    (Offered State.reset .service .mapOpen 1#8 [] fun s => s.map.state = .invalid) ∧
      (Offered editing .service .mapOpen 1#8 [] fun s => s.map.state = .edit) ∧
      (Offered track .service .mapOpen 1#8 [] fun s => s.map.state = .valid ∧ s.track.mode = .park ∧ s.book.orders = [] ∧
        (∀ c, (s.car c).state = .unknown) ∧ (∀ k, (s.sec k).st = .free) ∧ s.cars.jog = none) ∧
      Offered (inMode track .run) .service .mapOpen 1#8 [] fun s => s.map.state = .valid ∧
        ¬ (s.track.mode = .park ∨ s.track.mode = .hold) :=
  ⟨offered rfl, offered rfl, offered (by decide), offered (by decide)⟩

/-- Every item at the edge of its ranges, and the two that read as zero. -/
theorem witness_ItemsReadBack :
    parseItem .loop [32#8, 30#8] = some (.loop ⟨32, 30⟩) ∧
      parseItem (.sectionAt 31) [0x0F#8, 0xFF#8, 1#8] = some (.sectionAt 31 ⟨4095, .activeLow⟩) ∧
      parseItem (.station 11) [3#8, 31#8, 8#8, 3#8, 0xFF#8, 0#8, 16#8, 0#8, 1#8] =
        some (.station 11 (some ⟨.depot, 31, 8, 1023, 16, .activeHigh, .activeLow⟩)) ∧
      parseItem (.station 0) [0#8, 9#8, 9#8, 9#8, 9#8, 9#8, 9#8, 9#8, 9#8] = some (.station 0 none) ∧
      parseItem (.window 15) [12#8] = some (.window 15 (some 11)) ∧ parseItem (.window 0) [0#8] = some (.window 0 none) ∧
      parseItem (.bin 7) [0#8, 0#8, 0x0F#8, 0xFF#8, 1#8, 1#8] = some (.bin 7 (some ⟨0, 4095, 0, true⟩)) ∧
      parseItem (.bin 0) [9#8, 9#8, 9#8, 9#8, 0#8, 9#8] = some (.bin 0 none) ∧
      parseItem (.param 0) [50#8] = some (.number 0 50) ∧ parseItem (.param 11) [15#8] = some (.number 11 15) ∧
      parseItem (.param 4) [7#8, 254#8] = some (.runRate ⟨7, 254⟩) ∧ parseItem (.param 5) [0#8, 0#8] = some (.slowRate ⟨0, 0⟩) := by
  decide

/-- One byte; group 7; a short body; a layout item outside EDIT; slack 51; window 1 to the depot; and slack 50. -/
theorem witness_MapWrite :
    (Offered track .service .mapWrite 1#8 [6#8] fun _ => [6#8].length < 2) ∧
      (Offered track .service .mapWrite 1#8 (7#8 :: 0#8 :: []) fun _ => itemRef (7#8).toNat (0#8).toNat = none) ∧
      (Offered track .service .mapWrite 1#8 (6#8 :: 1#8 :: []) fun _ =>
        itemRef (6#8).toNat (1#8).toNat = some (.param 0) ∧ ([] : List Byte).length + 2 ≠ (ItemRef.param 0).bodyLen) ∧
      (Offered track .service .mapWrite 1#8 (1#8 :: 0#8 :: [8#8, 0#8]) fun s =>
        itemRef (1#8).toNat (0#8).toNat = some .loop ∧ [8#8, 0#8].length + 2 = ItemRef.loop.bodyLen ∧ ItemRef.loop.layout = true ∧
          s.map.state ≠ .edit) ∧
      (Offered track .service .mapWrite 1#8 (6#8 :: 1#8 :: [51#8]) fun _ =>
        [51#8].length + 2 = (ItemRef.param 0).bodyLen ∧ (ItemRef.param 0).layout = false ∧ parseItem (.param 0) [51#8] = none) ∧
      (Offered track .service .mapWrite 1#8 (4#8 :: 1#8 :: [3#8]) fun s =>
        itemRef (4#8).toNat (1#8).toNat = some (.window 0) ∧ [3#8].length + 2 = (ItemRef.window 0).bodyLen ∧
          parseItem (.window 0) [3#8] = some (.window 0 (some 2)) ∧ s.map.admits (.window 0 (some 2)) = false) ∧
      (Offered track .service .mapWrite 1#8 (6#8 :: 1#8 :: [50#8]) fun s =>
        parseItem (.param 0) [50#8] = some (.number 0 50) ∧ s.map.admits (.number 0 50) = true) ∧
      Offered editing .service .mapWrite 1#8 (1#8 :: 0#8 :: [8#8, 6#8]) fun s =>
        s.map.state = .edit ∧ parseItem .loop [8#8, 6#8] = some (.loop ⟨8, 6⟩) ∧ s.map.admits (.loop ⟨8, 6⟩) = true :=
  ⟨offered (by decide), offered (by decide), offered (by decide), offered (by decide), offered (by decide), offered (by decide), offered (by decide),
    offered (by decide)⟩

/-- Fields just outside their ranges: S 7 and 33, A above S − 2, a length 31 and 4096, a capacity 4 and an exit length 1024, a station 13,
bins the wrong way round, a carrier length 7 and a reload 255 (R3 to R8). -/
theorem test_ranges :
    parseItem .loop [7#8, 0#8] = none ∧ parseItem .loop [33#8, 0#8] = none ∧ parseItem .loop [8#8, 7#8] = none ∧
      parseItem (.sectionAt 0) [0#8, 31#8, 0#8] = none ∧ parseItem (.sectionAt 0) [16#8, 0#8, 0#8] = none ∧
      parseItem (.station 0) [1#8, 31#8, 4#8, 0#8, 16#8, 0#8, 16#8, 0#8, 0#8] = none ∧
      parseItem (.station 0) [3#8, 31#8, 8#8, 4#8, 0#8, 0#8, 16#8, 0#8, 0#8] = none ∧
      parseItem (.window 0) [13#8] = none ∧ parseItem (.bin 0) [0#8, 2#8, 0#8, 1#8, 1#8, 0#8] = none ∧
      parseItem (.param 2) [7#8] = none ∧ parseItem (.param 5) [0#8, 255#8] = none := by decide

/-- Live writes that the map refuses and takes (R9, R10): a RUN divisor of 512 in a VALID map and in EDIT; a carrier length of 40 and of 41
beside sections of 64 steps and a guard of 24; and a guard of 25 where the one section item below 65 steps is that of section 8 of 8. -/
theorem test_live_checks :
    let long := { testMap with sections := tset testMap.sections 8 (some ⟨64, .activeHigh⟩) }
    testMap.admits (.runRate ⟨1, 0⟩) = false ∧ editing.map.admits (.runRate ⟨1, 0⟩) = true ∧
      testMap.admits (.number 2 40) = true ∧ testMap.admits (.number 2 41) = false ∧
      ({ long with sections := Vector.ofFn fun k => if k.val < 8 then some ⟨65, .activeHigh⟩ else tget long.sections k } :
        StopMap).admits (.number 3 25) = true := by decide

theorem witness_MapRead :
    (Offered track .service .mapRead 1#8 [6#8, 12#8] fun _ => itemRef (6#8).toNat (12#8).toNat = some (.param 11)) ∧
      (Offered State.reset .service .mapRead 1#8 [0#8, 0#8] fun s => s.map.state = .invalid) ∧
      (Offered track .service .mapRead 1#8 [0#8, 1#8] fun _ => itemRef (0#8).toNat (1#8).toNat = none ∧ ¬ (0#8 = 0#8 ∧ 1#8 = 0#8)) ∧
      Offered track .service .mapRead 1#8 [6#8, 13#8] fun _ => itemRef (6#8).toNat (13#8).toNat = none ∧ ¬ (6#8 = 0#8 ∧ 13#8 = 0#8) :=
  ⟨offered (by decide), offered rfl, offered (by decide), offered (by decide)⟩

/-- A VALID map; an EDIT map with nothing in it; and an EDIT map that passes. -/
theorem witness_MapClose :
    (Offered track .service .mapClose 1#8 [] fun s => s.map.state ≠ .edit) ∧
      (Offered { State.reset with map := { StopMap.reset with state := .edit } } .service .mapClose 1#8 [] fun s =>
        s.map.state = .edit ∧ s.firstFailure = some ⟨false, 1, 0, 1⟩) ∧
      Offered editing .service .mapClose 1#8 [] fun s => s.map.state = .edit ∧ s.firstFailure = none ∧
        s.map.sectionCount = 8 :=
  ⟨offered (by decide), offered (by decide), offered (by decide)⟩

/-- The first and the last of the checks, and one that fails after others pass: a depot too small for the carriers, check 10 (R16). -/
theorem witness_MapClose_checks :
    let small := { editing with map := { editing.map with
      stations := tset (tset editing.map.stations 2 (some ⟨.depot, 4, 7, 48, 16, .activeHigh, .activeHigh⟩)) 3 (some ⟨.depot, 6, 8, 48, 16, .activeHigh, .activeHigh⟩) } }
    ((editing.mapChecks.head?).map (·.number), (editing.mapChecks.getLast?).map (·.number)) = (some 1, some 14) ∧
      small.firstFailure = some ⟨false, 3, 0, 10⟩ := by decide +kernel

/-- A read left awaited at sections 7 and 8 of a loop of 8: MAP_CLOSE resets section 8's record alone (R55). -/
theorem test_map_close_resets_unused_sections :
    let stale : SectionRec := { SectionRec.reset with awaited := .unexpected }
    let s := ((editing.setSec 7 stale).setSec 8 stale).closeMap
    (s.sec 7).awaited = .unexpected ∧ s.sec 8 = SectionRec.reset := by decide

/-- A state with a request waiting and one answered but not yet sent. -/
def linkState : State :=
  { ((ask track .service .mapOpen 1#8 []).withLink .counter
      { (track.link .counter) with
        held := [⟨5#8, 2#8, [], true⟩, ⟨5#8, 3#8, [], false⟩]
        tx := [⟨.answer .refused, 2#8, [2#8]⟩] }) with
    pending := [.mapOpen .service] }

theorem witness_LinksStaySound : linkState.linksSound ∧ ∃ t, step linkState = .next t :=
  ⟨fun l => by cases l <;> decide, ⟨_, rfl⟩⟩

/-- An item of a table that passes a test wherever it is set. -/
theorem all_set {α : Type} {n : Nat} {v : Vector (Option α) n} {p : Fin n → α → Bool}
    (h : (List.finRange n).all (fun i => (tget v i).all (p i)) = true) {i : Fin n} {x : α} (e : tget v i = some x) :
    p i x = true := by
  have := (List.all_eq_true.mp h) i (List.mem_finRange i)
  rw [e] at this
  simpa using this

theorem witness_ValidMapStaysValid :
    track.map.sound ∧ track.map.state = .valid ∧ ∃ t, step { track with pending := [.stepEvent] } = .next t := by
  refine ⟨fun _ => ⟨by decide, by decide, fun i x h => ⟨?_, ?_, fun j y h' => ?_⟩, fun w i h => ?_, fun e b h => ?_, by decide, by decide⟩,
    rfl, ⟨_, rfl⟩⟩
  · exact of_decide_eq_true (all_set (p := fun _ x => decide (x.junction.val < track.map.sectionCount)) (by decide) h)
  · exact of_decide_eq_true (all_set (p := fun _ x => decide (track.map.params.carrierLen + 8 ≤ x.exitLen)) (by decide) h)
  · have a := of_decide_eq_true (all_set (p := fun i x => decide (x.junction.val = 2 * i.val)) (by decide) h)
    have b := of_decide_eq_true (all_set (p := fun i x => decide (x.junction.val = 2 * i.val)) (by decide) h')
    intro e
    rw [e] at b
    omega
  · exact of_decide_eq_true (all_set (p := fun _ i => decide (track.map.kindOf i = some .counter)) (by decide) h)
  · exact of_decide_eq_true (all_set (p := fun _ b => decide (track.map.kindOf b.station = some .stock)) (by decide) h)

theorem witness_TrackStaysSound : track.trackSound ∧ ∃ t, step { track with pending := [.stepEvent] } = .next t :=
  ⟨⟨rfl, rfl, rfl, by decide, by decide, by decide, fun _ _ h => by cases h⟩, ⟨_, rfl⟩⟩

theorem witness_BookStaysSound : (booked (order .queued)).book.sound ∧ ∃ t, step { (booked (order .queued)) with pending := [.secondEvent] } = .next t := by
  refine ⟨⟨by decide, by decide, fun o h => ?_, ⟨by decide, by decide⟩⟩, ⟨_, rfl⟩⟩
  obtain rfl : o = order .queued := List.mem_singleton.mp h
  exact ⟨⟨by decide, by decide⟩, by decide, by decide⟩

/-- A candidate on the loop. -/
def loopState : State :=
  { (withCar track 3 (carrier .returning (.loop 1))) with disp := ⟨[3], false⟩, pending := [.stepEvent] }

theorem witness_CandidatesStaySound : loopState.candidatesSound ∧ ∃ t, step loopState = .next t :=
  ⟨⟨fun c => by revert c; decide, by decide⟩, ⟨_, rfl⟩⟩

/-- An unrestricted order of one line with the book empty, and a HELD one of four lines with the book one short of full. -/
theorem witness_PlaceAppendsAnOrder :
    (Offered track .counter .place 1#8 [1#8, 0#8, 1#8, 0#8, 5#8, 1#8] fun s =>
      s.map.state = .valid ∧ s.map.windowLookup 1 = some 1 ∧ [0#8, 5#8, 1#8].length = 3 * 1 ∧
        distinctBins (placeLines [0#8, 5#8, 1#8]) = true ∧
        s.map.sources (placeLines [0#8, 5#8, 1#8]) = some [⟨5, 1, 0, false, .pending⟩] ∧ classOf 0 = some .rush ∧
        s.book.orders.length < 48) ∧
      let lines := [0#8, 5#8, 1#8, 0#8, 6#8, 1#8, 0#8, 7#8, 1#8, 0x0F#8, 0xA0#8, 255#8]
      Offered { track with book := ⟨List.replicate 47 (order .queued), 2⟩ } .service .place 1#8 (1#8 :: 2#8 :: 4#8 :: lines) fun s =>
        s.map.state = .valid ∧ s.map.windowLookup 1 = some 1 ∧ lines.length = 3 * 4 ∧ distinctBins (placeLines lines) = true ∧
          s.map.sources (placeLines lines) =
            some [⟨5, 1, 0, false, .pending⟩, ⟨6, 1, 0, false, .pending⟩, ⟨7, 1, 0, false, .pending⟩, ⟨4000, 255, 0, true, .pending⟩] ∧
          classOf 2 = some .bulk ∧ s.book.orders.length < 48 :=
  ⟨offered (by decide), offered (by decide)⟩

/-- Two bytes; an INVALID map; window 17; no line; a repeated bin; bin 4001; quantity 0; class 3; and a full book. -/
theorem witness_PlaceRefusals :
    (Offered track .counter .place 1#8 [1#8, 0#8] fun _ => [1#8, 0#8].length < 3) ∧
      (Offered State.reset .counter .place 1#8 [1#8, 0#8, 0#8] fun s => s.map.state ≠ .valid) ∧
      (Offered track .counter .place 1#8 [17#8, 0#8, 0#8] fun s => s.map.state = .valid ∧ s.map.windowLookup 17 = none) ∧
      (Offered track .counter .place 1#8 [1#8, 0#8, 0#8] fun s => (s.map.windowLookup 1).isSome = true ∧ ¬ (1 ≤ (0#8).toNat)) ∧
      (Offered track .counter .place 1#8 [1#8, 0#8, 2#8, 0#8, 5#8, 1#8, 0#8, 5#8, 2#8] fun _ =>
        distinctBins (placeLines [0#8, 5#8, 1#8, 0#8, 5#8, 2#8]) = false) ∧
      (Offered track .counter .place 1#8 [1#8, 0#8, 1#8, 0x0F#8, 0xA1#8, 1#8] fun s =>
        placeLines [0x0F#8, 0xA1#8, 1#8] = [(4001, 1)] ∧ distinctBins [(4001, 1)] = true ∧ s.map.binLookup 4001 = none) ∧
      (Offered track .counter .place 1#8 [1#8, 0#8, 1#8, 0#8, 5#8, 0#8] fun s =>
        placeLines [0#8, 5#8, 0#8] = [(5, 0)] ∧ (s.map.binLookup 5).isSome = true) ∧
      (Offered track .service .place 1#8 [1#8, 3#8, 1#8, 0#8, 5#8, 1#8] fun s =>
        placeLines [0#8, 5#8, 1#8] = [(5, 1)] ∧ (s.map.binLookup 5).isSome = true ∧ 3 ≤ (3#8).toNat) ∧
      Offered { track with book := ⟨List.replicate 48 (order .queued), 2⟩ } .service .place 1#8 [1#8, 2#8, 1#8, 0#8, 5#8, 1#8] fun s =>
        s.map.state = .valid ∧ (s.map.binLookup 5).isSome = true ∧ (2#8).toNat < 3 ∧ 48 ≤ s.book.orders.length :=
  ⟨offered (by decide), offered (by decide), offered (by decide), offered (by decide), offered (by decide), offered (by decide),
    offered (by decide), offered (by decide), offered (by decide)⟩

/-- 47 orders with the counter at the end of its range. -/
theorem witness_TicketIsFresh :
    (List.replicate 47 (order .queued)).length < 48 ∧ (∀ o ∈ List.replicate 47 (order .queued), o.ticket ≠ 65535) ∧ ticketRange 65535 ∧
      ∃ o ∈ List.replicate 47 (order .queued), o.ticket = 1 :=
  ⟨by decide, by decide, ⟨by decide, by decide⟩, order .queued, by decide, rfl⟩

theorem witness_EndorseReleases :
    (Offered track .stock .endorse 1#8 [] fun _ => Link.stock ≠ .service) ∧
      (Offered track .service .endorse 1#8 [0#8] fun _ => [0#8].length ≠ 2) ∧
      (Offered (booked (order .held)) .service .endorse 1#8 [0#8, 0#8] fun s => s.orderOf 0 = none) ∧
      (Offered (booked (order .queued)) .service .endorse 1#8 [0#8, 1#8] fun s =>
        s.orderOf 1 = some (order .queued) ∧ (order .queued).state ≠ .held) ∧
      (Offered (booked (order .held)) .service .endorse 1#8 [0#8, 1#8] fun s =>
        s.orderOf 1 = some (order .held) ∧ s.map.state = .valid) ∧
      Offered { (booked (order .held)) with map := editing.map } .service .endorse 1#8 [0#8, 1#8] fun s =>
        s.orderOf 1 = some (order .held) ∧ s.map.state ≠ .valid :=
  ⟨offered (by decide), offered (by decide), offered (by decide), offered (by decide), offered (by decide), offered (by decide)⟩

theorem witness_WakeStartsAWarmup :
    (({ track with track := { track.track with autoParked := true } } : State).track.mode = .park ∧
        ({ track with track := { track.track with autoParked := true } } : State).track.autoParked = true ∧
        track.track.faultFlag = false) ∧
      ¬ (track.track.mode = .park ∧ track.track.autoParked = true ∧ track.track.faultFlag = false) := by decide

theorem witness_ExpediteRaises :
    (Offered (booked (serviceOrder .held)) .counter .expedite 1#8 [0#8, 1#8] fun s =>
      s.orderOf 1 = some (serviceOrder .held) ∧ (serviceOrder .held).origin = .service) ∧
      (Offered (booked (order .held)) .counter .expedite 1#8 [0#8, 1#8] fun s =>
        s.orderOf 1 = some (order .held) ∧ (order .held).origin = .counter) ∧
      Offered (booked (serviceOrder .assigned)) .service .expedite 1#8 [0#8, 1#8] fun s =>
        s.orderOf 1 = some (serviceOrder .assigned) ∧ ¬ ((serviceOrder .assigned).state = .held ∨ (serviceOrder .assigned).state = .queued) :=
  ⟨offered (by decide), offered (by decide), offered (by decide)⟩

/-- Of the service link, on the counter link; QUEUED; TO_COUNTER; ASSIGNED with a load; ASSIGNED; AT_STOCK with its carrier at the
dock. -/
theorem witness_CancelEndsAnOrder :
    (Offered (booked (serviceOrder .held)) .counter .cancel 1#8 [0#8, 1#8] fun s =>
      s.orderOf 1 = some (serviceOrder .held) ∧ (serviceOrder .held).origin = .service) ∧
      (Offered (booked (order .queued)) .counter .cancel 1#8 [0#8, 1#8] fun s =>
        s.orderOf 1 = some (order .queued) ∧ (order .queued).origin = .counter) ∧
      (Offered (booked (order .toCounter)) .service .cancel 1#8 [0#8, 1#8] fun s => s.orderOf 1 = some (order .toCounter)) ∧
      (Offered (booked (loadedOrder .assigned)) .service .cancel 1#8 [0#8, 1#8] fun s =>
        s.orderOf 1 = some (loadedOrder .assigned) ∧ ∃ x ∈ (loadedOrder .assigned).lines, x.status = .loaded) ∧
      (Offered (booked (order .assigned)) .service .cancel 1#8 [0#8, 1#8] fun s =>
        s.orderOf 1 = some (order .assigned) ∧ (order .assigned).carrier = some 3 ∧
          ∀ x ∈ (order .assigned).lines, x.status ≠ .loaded) ∧
      Offered (withCar (booked (order .atStock)) 3 (carrier .loading (.docked 0))) .service .cancel 1#8 [0#8, 1#8] fun s =>
        s.orderOf 1 = some (order .atStock) ∧ (order .atStock).carrier = some 3 ∧
          (∀ x ∈ (order .atStock).lines, x.status ≠ .loaded) ∧ (s.car 3).place = .docked 0 :=
  ⟨offered (by decide), offered (by decide), offered (by decide), offered (by decide), offered (by decide), offered (by decide)⟩

/-- From section 5 of 8 the depot of junction 6 is nearer than that of junction 4, and from section 6 the latter; docked at station 2, whose
merge section is 3, it is that of junction 4; a map without depots gives none (R103). -/
theorem witness_CancelEndsAnOrder_depot :
    track.chooseDepot (.loop 5) = some 3 ∧ track.chooseDepot (.loop 6) = some 2 ∧ track.chooseDepot (.docked 1) = some 2 ∧
      State.reset.chooseDepot (.loop 5) = none := by decide

theorem witness_TakenDelivers :
    (Offered (booked (serviceOrder .atCounter)) .counter .taken 1#8 [0#8, 1#8] fun s =>
      s.orderOf 1 = some (serviceOrder .atCounter) ∧ (serviceOrder .atCounter).origin = .service) ∧
      (Offered (booked (order .queued)) .counter .taken 1#8 [0#8, 1#8] fun s =>
        s.orderOf 1 = some (order .queued) ∧ (order .queued).origin = .counter ∧ (order .queued).state ≠ .atCounter) ∧
      Offered (withCar (booked (loadedOrder .atCounter)) 3 (carrier .presenting (.docked 1))) .service .taken 1#8 [0#8, 1#8] fun s =>
        s.orderOf 1 = some (loadedOrder .atCounter) ∧ (loadedOrder .atCounter).carrier = some 3 ∧ (s.car 3).place = .docked 1 :=
  ⟨offered (by decide), offered (by decide), offered (by decide)⟩

/-- A LOADED at the stop; a SHORT that names no line, and one that names the only line; a LOADED elsewhere, and a SHORT at a stop
passed; and for a stop done, a further stop, a load and none. -/
theorem witness_LoadedAndShort :
    (Offered (booked (order .atStock)) .stock .loaded 1#8 [0#8, 1#8, 1#8, 255#8] fun s =>
      s.orderOf 1 = some (order .atStock) ∧ (1#8).toNat = (0 : StationId).val + 1 ∧
        (order .atStock).stops[(order .atStock).nextStop]? = some 0 ∧ (order .atStock).carrier = some 3) ∧
      (Offered (booked (order .atStock)) .stock .short 1#8 [0#8, 1#8, 1#8, 0#8] fun s =>
        s.orderOf 1 = some (order .atStock) ∧ (0#8).toNat < 16 ∧
          ∃ y ∈ (order .atStock).lines, y.station = 0 ∧ y.status = .pending) ∧
      (Offered (booked (loadedOrder .atStock)) .service .short 1#8 [0#8, 1#8, 1#8, 15#8] fun s =>
        s.orderOf 1 = some (loadedOrder .atStock) ∧ (15#8).toNat < 16 ∧
          ∀ y ∈ (loadedOrder .atStock).lines, ¬ (y.station = 0 ∧ y.status = .pending)) ∧
      (Offered (booked (order .assigned)) .stock .loaded 1#8 [0#8, 1#8, 1#8, 3#8] fun s =>
        s.orderOf 1 = some (order .assigned) ∧ (order .assigned).state ≠ .atStock ∧ (0 : StationId) ∉ (order .assigned).stops.take 0) ∧
      (Offered (booked { (order .toCounter) with nextStop := 1 }) .stock .short 1#8 [0#8, 1#8, 1#8, 15#8] fun s =>
        s.orderOf 1 = some { (order .toCounter) with nextStop := 1 } ∧
          (0 : StationId) ∈ ({ (order .toCounter) with nextStop := 1 } : Order).stops.take 1) ∧
      ({ (order .atStock) with stops := [0, 3] } : Order).stops[0 + 1]? = some 3 ∧ (order .atStock).stops[0 + 1]? = none ∧
      (∃ x ∈ (loadedOrder .atStock).lines, x.status = .loaded) ∧ (∀ x ∈ (order .atStock).lines, x.status ≠ .loaded) :=
  ⟨offered (by decide), offered (by decide), offered (by decide), offered (by decide), offered (by decide), by decide⟩

theorem witness_QueryReadsAnOrder :
    (Offered track .counter .query 1#8 [0#8, 1#8, 2#8] fun _ => 2 ≤ (2#8).toNat) ∧
      (Offered (booked (order .queued)) .stock .query 1#8 [0#8, 0#8, 1#8] fun s => (1#8).toNat < 2 ∧ s.orderOf 0 = none) ∧
      (Offered (booked (order .queued)) .stock .query 1#8 [0#8, 1#8, 0#8] fun s => s.orderOf 1 = some (order .queued)) ∧
      Offered (booked (order .queued)) .service .query 1#8 [0#8, 1#8, 1#8] fun s => s.orderOf 1 = some (order .queued) :=
  ⟨offered (by decide), offered (by decide), offered (by decide), offered (by decide)⟩

theorem witness_StationsCloseAndOpen :
    (Offered track .stock .closeStation 1#8 [1#8] fun s => (1#8).toNat = (0 : StationId).val + 1 ∧ s.map.kindOf 0 = some .stock) ∧
      (Offered track .service .openStation 1#8 [1#8] fun s => s.map.kindOf 0 = some .stock ∧ (s.stn 0).closed = false) ∧
      (Offered (track.setStn 0 { (track.stn 0) with closed := true }) .service .openStation 1#8 [1#8] fun s =>
        s.map.kindOf 0 = some .stock ∧ (s.stn 0).closed = true) ∧
      (Offered track .stock .closeStation 1#8 [13#8] fun s => ∀ i : StationId, (13#8).toNat = i.val + 1 → s.map.kindOf i ≠ some .stock) ∧
      Offered track .stock .openStation 1#8 [0#8] fun s => ∀ i : StationId, (0#8).toNat = i.val + 1 → s.map.kindOf i ≠ some .stock :=
  ⟨offered (by decide), offered (by decide), offered (by decide), offered (by decide), offered (by decide)⟩

theorem witness_SetModeStores :
    (Offered (inMode track .slow) .service .setMode 1#8 [1#8, 1#8] fun s =>
      (1#8).toNat = Speed.code .slow ∧ (1#8).toNat = Settle.code .park ∧ s.track.mode = .slow) ∧
      (Offered track .service .setMode 1#8 [0#8, 0#8] fun s =>
        (0#8).toNat = Speed.code .run ∧ (0#8).toNat = Settle.code .hold ∧ ¬ (s.track.mode = .run ∨ s.track.mode = .slow)) ∧
      Offered track .service .setMode 1#8 [2#8, 0#8] fun _ => 2 ≤ (2#8).toNat :=
  ⟨offered (by decide), offered (by decide), offered (by decide)⟩

/-- A change to RUN and to the same mode; and to PARK without a jog and with one. -/
theorem witness_SetModeStores_change :
    track.track.mode ≠ .run ∧ track.track.mode = .park ∧ (inMode track .hold).track.mode ≠ .park ∧ track.cars.jog = none ∧
      ((inMode track .hold).setJog (some ⟨.spur 2, 3, 2, 7#8⟩)).cars.jog = some ⟨.spur 2, 3, 2, 7#8⟩ := by decide

/-- From HOLD to PARK with a jog running: MODE 0, 4, then COMPLETION ABORTED with two steps delivered (R155, R114; log entry 6). -/
theorem test_park_ends_jog :
    ((((inMode track .hold).setJog (some ⟨.spur 2, 3, 2, 7#8⟩)).changeMode .park).link .service).tx.tail =
      [⟨.notice .mode, 0#8, [0#8, 4#8, 0#8, 0#8]⟩, ⟨.notice .completion, 7#8, [0x1B#8, 5#8, 2#8]⟩] := by decide

/-- The track in a mode, its latches and generator as they are there, with a completion pending, a survey and a jog. -/
def pendingIn (m : Mode) (c : Completion) (v : Option SurveyRec) (j : Option Jog) : State :=
  let s := track.changeMode m
  let s := { s with track := { s.track with completion := c, survey := v }, cars := { s.cars with jog := j } }
  { s with gen := ⟨s.divisor⟩ }

/-- SETTLE in PARK, RUN and HOLD, in a warm-up of a RESUME and of a SURVEY, in SURVEY, and with a jog that PARK ends. -/
theorem witness_SettleRests :
    (Offered track .service .settle 1#8 [] fun s => s.trackSound ∧ s.track.mode = .park) ∧
      (Offered (track.changeMode .run) .service .settle 1#8 [] fun s => s.trackSound ∧ s.track.mode = .run) ∧
      (Offered (pendingIn .hold .none none (some ⟨.spur 2, 3, 5, 8#8⟩)) .service .settle 1#8 [] fun s =>
        s.trackSound ∧ s.track.mode = .hold ∧ s.cars.jog = some ⟨.spur 2, 3, 5, 8#8⟩) ∧
      (Offered (pendingIn .warmup (.resume 6#8) none none) .service .settle 1#8 [] fun s =>
        s.trackSound ∧ s.track.mode = .warmup ∧ s.track.completion = .resume 6#8) ∧
      (Offered (pendingIn .warmup (.survey 6#8) (some SurveyRec.fresh) none) .service .settle 1#8 [] fun s =>
        s.trackSound ∧ s.track.mode = .warmup ∧ s.track.survey = some SurveyRec.fresh) ∧
      Offered (pendingIn .survey (.survey 6#8) (some SurveyRec.fresh) none) .service .settle 1#8 [] fun s =>
        s.trackSound ∧ s.track.mode = .survey :=
  ⟨offered ⟨⟨rfl, by decide, by decide, by decide, by decide, by decide, fun _ _ h => by cases h⟩, rfl⟩,
    offered ⟨⟨rfl, by decide, by decide, by decide, by decide, by decide, fun _ _ h => by cases h⟩, rfl⟩,
    offered ⟨⟨rfl, by decide, by decide, by decide, by decide, by decide, fun _ _ h => by cases h⟩, rfl, rfl⟩,
    offered ⟨⟨rfl, by decide, by decide, by decide, by decide, by decide, fun _ _ h => by cases h⟩, rfl, rfl⟩,
    offered ⟨⟨rfl, by decide, by decide, by decide, by decide, by decide, fun _ _ h => by cases h; rfl⟩, rfl, rfl⟩,
    offered ⟨⟨rfl, by decide, by decide, by decide, by decide, by decide, fun _ h _ => by cases h⟩, rfl⟩⟩

/-- A SETTLE in the warm-up of a RESUME with tag 6: DONE, MODE HOLD from WARMUP, and COMPLETION ABORTED (R157). -/
theorem test_settle_aborts_resume :
    (next (exec (.settle .service) (ask (pendingIn .warmup (.resume 6#8) none none) .service .settle 1#8 []))).map
        (fun s => (s.link .service).tx.drop ((track.changeMode .warmup).link .service).tx.length) =
      some [⟨.answer .done, 1#8, []⟩, ⟨.notice .mode, 0#8, [4#8, 1#8, 0#8, 0#8]⟩,
        ⟨.notice .completion, 6#8, [0x12#8, 5#8]⟩] := by decide

theorem witness_ResumeStarts :
    (Offered editing .service .resume 1#8 [] fun s => s.map.state = .edit) ∧
      (Offered State.reset .service .resume 1#8 [] fun s => s.map.state = .invalid) ∧
      (Offered { track with track := { track.track with faultFlag := true } } .service .resume 1#8 [] fun s =>
        s.map.state = .valid ∧ s.track.faultFlag = true) ∧
      ∀ m : Mode, Offered (inMode track m) .service .resume 1#8 [] fun s =>
        s.map.state = .valid ∧ s.track.faultFlag = false ∧ s.track.mode = m :=
  ⟨offered rfl, offered rfl, offered (by decide), fun _ => offered ⟨rfl, rfl, rfl⟩⟩

theorem witness_RecoverAndClearCause :
    (ask track .service .recover 1#8 []).offers .service .recover 1#8 [] ∧
      (ask track .service .clearCause 1#8 []).offers .service .clearCause 1#8 [] ∧
      (ask track .service .recover 1#8 [0#8]).offers .service .recover 1#8 (0#8 :: []) ∧
      (ask track .service .clearCause 1#8 [0#8]).offers .service .clearCause 1#8 (0#8 :: []) :=
  ⟨ask_offers .., ask_offers .., ask_offers .., ask_offers ..⟩

/-- In PARK and in HOLD, with a carrier on the loop that is not kept. -/
theorem witness_SurveyAccepted :
    ∀ m : Mode, m = .hold ∨ m = .park →
      Offered (withCar (inMode track m) 3 (carrier .returning (.loop 1))) .service .survey 1#8 [] fun s =>
        s.map.state = .valid ∧ s.track.faultFlag = false ∧ s.track.mode = m ∧ (s.car 3).inService = true ∧ s.kept 3 = false := by
  rintro m (rfl | rfl) <;> exact offered (by decide)

/-- Carriers 3 and 5 at the depot's dock and behind it, with an order of carrier 7 and a QUEUED one in the book. -/
def depotFull : State :=
  let s := withCar (withCar (inMode track .park) 3 { (carrier .called (.docked 2)) with retirePending := true }) 5 (carrier .idle (.queue 2 1))
  { (s.setStn 2 { (s.stn 2) with queue := [3, 5], dock := .docked 3 }) with
    book := ⟨[{ (order .assigned) with carrier := some 7 }, { (order .queued) with ticket := 2, carrier := none }], 3⟩ }

/-- A book that is sound; carriers kept, docked and queued; one not in service; an order that holds a carrier and one that does not. -/
theorem witness_SurveyAccepted_kept :
    Offered depotFull .service .survey 1#8 [] fun s =>
      s.map.state = .valid ∧ s.track.faultFlag = false ∧ s.track.mode = .park ∧ s.kept 3 = true ∧ s.kept 5 = true ∧
        (s.car 3).place = .docked 2 ∧ (s.car 5).place = .queue 2 1 ∧ (s.car 7).inService = false ∧
        (s.book.orders.length ≤ 48 ∧ s.book.orders.Pairwise (fun x y => x.ticket ≠ y.ticket)) :=
  offered (by decide)

/-- The CALLED carrier at the dock, retire-pending, becomes REMOVING, the queue and the QUEUED order stay, and the other order is told of
as FAILED (R116, R95, R137). -/
theorem test_survey_keeps :
    (next (exec (.survey .service) (ask depotFull .service .survey 1#8 []))).map
        (fun s => ((s.car 3).state, (s.stn 2).queue, s.book.orders.map (·.ticket), (s.link .counter).tx.tail.map (·.body))) =
      some (.removing, [3, 5], [2], [[1#8, 4#8, 0#8, 1#8, 0#8]]) := by decide +kernel

/-- A SURVEY with a body, of a map in EDIT, of an INVALID map, of a faulted track, and in WARMUP. -/
theorem witness_SurveyAccepted_refused :
    (ask track .service .survey 1#8 [0#8]).offers .service .survey 1#8 [0#8] ∧
      (Offered editing .service .survey 1#8 [] fun s => s.map.state = .edit) ∧
      (Offered State.reset .service .survey 1#8 [] fun s => s.map.state = .invalid) ∧
      (Offered { track with track := track.track.record .driveFail .none none } .service .survey 1#8 [] fun s =>
        s.map.state = .valid ∧ s.track.faultFlag = true) ∧
      Offered (inMode track .warmup) .service .survey 1#8 [] fun s =>
        s.map.state = .valid ∧ s.track.faultFlag = false ∧ s.track.mode ≠ .hold ∧ s.track.mode ≠ .park :=
  ⟨ask_offers .., offered (by decide), offered (by decide), offered (by decide), offered (by decide)⟩

/-- No carrier is UNKNOWN, and E_7 is active. -/
def crowdedLoop : State :=
  { ((inMode track .hold).setFilter (.entry 7) ⟨true, 0, false⟩) with
    cars := { track.cars with recs := Vector.replicate 16 (carrier .out .none) } }

/-- From HOLD with as many carriers UNKNOWN as the entry sensors need, and with one too few. -/
theorem witness_SurveyAccepted_sweep :
    (Offered (inMode track .hold) .service .survey 1#8 [] fun s =>
      s.map.state = .valid ∧ s.track.faultFlag = false ∧ s.track.mode = .hold ∧
        ((List.finRange 32).countP fun k => decide (k.val < s.S) && s.active (.entry k)) ≤
          (List.finRange 16).countP fun c => (s.car c).state == .unknown || ((s.car c).inService && !s.kept c)) ∧
      Offered crowdedLoop .service .survey 1#8 [] fun s =>
        s.map.state = .valid ∧ s.track.faultFlag = false ∧ s.track.mode = .hold ∧
          ((List.finRange 16).countP fun c => (s.car c).state == .unknown || ((s.car c).inService && !s.kept c)) <
            (List.finRange 32).countP fun k => decide (k.val < s.S) && s.active (.entry k) :=
  ⟨offered (by decide), offered (by decide)⟩

/-- The SURVEY with one sensor too many: MODE to SURVEY, FAULT naming section 7, MODE to HOLD and COMPLETION ABORTED (R169, R164,
R174). -/
theorem test_survey_too_many_active :
    (next (exec (.survey .service) (ask crowdedLoop .service .survey 1#8 []))).map
        (fun s => (s.track.mode, s.track.firstFault, (s.link .service).tx.tail.map (·.kind))) =
      some (.hold, some ⟨.surveyFail, .sectionAt 7, none, 0⟩,
        [.answer .deferred, .notice .mode, .notice .fault, .notice .mode, .notice .completion]) := by decide +kernel

/-- An UNKNOWN carrier into an empty depot, with its dock sensor inactive and active. -/
theorem witness_AdmitJoinsTheQueue :
    ∀ level : Bool, Offered (track.setFilter (.dock 2) ⟨level, 0, false⟩) .service .admitCarrier 1#8 [15#8, 3#8] fun s =>
      (15#8).toNat = (15 : CarrierId).val ∧ (3#8).toNat = (2 : StationId).val + 1 ∧ s.map.state = .valid ∧ s.track.mode ≠ .survey ∧
        (s.stn 2).kind = some .depot ∧ (s.car 15).state = .unknown ∧
        (s.stn 2).queue.length + (s.stn 2).inbound < (s.stn 2).capacity ∧ (s.stn 2).dock = .empty ∧ (s.stn 2).movingUp = none ∧
        (s.stn 2).firstWaiting = none ∧ (s.stn 2).launchPending ≠ some 15 ∧ s.active (.dock 2) = level := by
  intro level
  cases level <;> exact offered (by decide)

/-- An ADMIT with one byte, of carrier 16, into stations 0 and 13, in EDIT, of an INVALID map, in SURVEY, into a STOCK station, of a
carrier in service, and into a full depot. -/
theorem witness_AdmitJoinsTheQueue_refused :
    (ask track .service .admitCarrier 1#8 [15#8]).offers .service .admitCarrier 1#8 [15#8] ∧
      16 ≤ (16#8).toNat ∧ (0#8).toNat = 0 ∧ 13 ≤ (13#8).toNat ∧
      (Offered editing .service .admitCarrier 1#8 [15#8, 3#8] fun s => s.map.state = .edit) ∧
      (Offered State.reset .service .admitCarrier 1#8 [15#8, 3#8] fun s => s.map.state = .invalid) ∧
      (Offered (inMode track .survey) .service .admitCarrier 1#8 [15#8, 3#8] fun s => s.map.state = .valid ∧ s.track.mode = .survey) ∧
      (Offered track .service .admitCarrier 1#8 [15#8, 1#8] fun s => s.track.mode ≠ .survey ∧ (s.stn 0).kind ≠ some .depot) ∧
      (Offered (withCar track 15 (carrier .returning (.loop 1))) .service .admitCarrier 1#8 [15#8, 3#8] fun s =>
        (s.stn 2).kind = some .depot ∧ (s.car 15).state ≠ .unknown ∧ (s.car 15).state ≠ .out) ∧
      Offered (track.setStn 2 { (track.stn 2) with inbound := 8 }) .service .admitCarrier 1#8 [15#8, 3#8] fun s =>
        (s.car 15).state = .unknown ∧ (s.stn 2).capacity ≤ (s.stn 2).queue.length + (s.stn 2).inbound :=
  ⟨ask_offers .., by decide, by decide, by decide, offered (by decide), offered (by decide), offered (by decide), offered (by decide),
    offered (by decide), offered (by decide)⟩

/-- OUT; in service in EDIT; UNKNOWN; IDLE at a dock, not yet and already retire-pending; RETURNING on the loop; IDLE behind a dock; and REMOVING. -/
theorem witness_RetireTakesOffTheRail :
    (Offered (withCar track 15 (carrier .out .none)) .service .retire 1#8 [15#8] fun s =>
      (15#8).toNat = (15 : CarrierId).val ∧ (s.car 15).state = .out) ∧
      (Offered (withCar editing 15 (carrier .idle (.docked 2))) .service .retire 1#8 [15#8] fun s =>
        s.map.state = .edit ∧ (s.car 15).state ≠ .out ∧ (s.car 15).state ≠ .unknown) ∧
      (Offered editing .service .retire 1#8 [15#8] fun s => (s.car 15).state = .unknown) ∧
      (Offered (withCar track 15 (carrier .idle (.docked 2))) .service .retire 1#8 [15#8] fun s =>
        s.map.state ≠ .edit ∧ (s.car 15).state = .idle ∧ (s.car 15).place = .docked 2 ∧ (s.car 15).retirePending = false) ∧
      (Offered (withCar track 15 { (carrier .idle (.docked 2)) with retirePending := true }) .service .retire 1#8 [15#8] fun s =>
        s.map.state ≠ .edit ∧ (s.car 15).state = .idle ∧ (s.car 15).place = .docked 2 ∧ (s.car 15).retirePending = true) ∧
      (∀ r ∈ [carrier .returning (.loop 1), carrier .idle (.queue 2 0)],
        Offered (withCar track 15 r) .service .retire 1#8 [15#8] fun s =>
          s.map.state ≠ .edit ∧ (s.car 15).inService = true ∧ (s.car 15).state ≠ .removing ∧
            ¬ ((s.car 15).state = .idle ∧ ∃ i, (s.car 15).place = .docked i)) ∧
      Offered (withCar track 15 (carrier .removing (.docked 2))) .service .retire 1#8 [15#8] fun s =>
        s.map.state ≠ .edit ∧ (s.car 15).state = .removing := by
  refine ⟨offered (by decide), offered (by decide), offered (by decide), offered (by decide), offered (by decide), fun r h => ?_,
    offered (by decide)⟩
  rcases List.mem_cons.mp h with rfl | h
  · exact offered (by decide)
  · obtain rfl := List.mem_singleton.mp h
    exact offered (by decide)

/-- An OUT carrier; one with both kinds of stall and a watch; and one with none. -/
theorem witness_ClearCarrierRestarts :
    (Offered (withCar track 0 (carrier .out .none)) .service .clearCarrier 1#8 [0#8] fun s =>
      (0#8).toNat = (0 : CarrierId).val ∧ (s.car 0).state = .out) ∧
      (Offered (withCar track 0 { (carrier .returning (.loop 1)) with
          stall := ⟨some .front, true⟩, passage := Passage.clear.arm (.entry 1) 9 9 }) .service .clearCarrier 1#8 [0#8] fun s =>
        (s.car 0).state ≠ .out ∧ (s.car 0).stalled = true ∧ (s.car 0).stall.stretch.isSome = true ∧ (s.car 0).stall.tail = true ∧
          (s.car 0).passage.watch.isSome = true) ∧
      Offered track .service .clearCarrier 1#8 [0#8] fun s => (s.car 0).state ≠ .out ∧ (s.car 0).stalled = false :=
  ⟨offered (by decide), offered (by decide), offered (by decide)⟩

/-- A FRONT stall in section 1 and a TAIL stall; each kind of stretch that can stall; and the divert's station in the map. -/
theorem witness_ClearCarrierRestarts_stretches :
    ∀ x ∈ [Stretch.loop 1, .divert 1, .launch 1, .dock 1],
      Offered (withCar track 0 { (carrier .returning (.loop 1)) with
          stall := ⟨some x.frontKind, false⟩, passage := { Passage.clear with stretch := x, n := 99, budget := 99, overrun := true } })
        .service .clearCarrier 1#8 [0#8] fun s =>
          (s.car 0).state ≠ .out ∧ (s.car 0).stall.stretch.isSome = true ∧ (s.car 0).stall.tail = false ∧
            (s.car 0).passage.stretch = x ∧ (tget s.map.stations 1).isSome = true := by
  intro x h
  simp only [List.mem_cons, List.mem_nil_iff, or_false] at h
  rcases h with rfl | rfl | rfl | rfl <;> exact offered (by decide)

/-- A LOOP stretch of 64 steps restarted under slack 10: n = 0, B = 71, and the stop point 24 steps short of its end (R50). -/
theorem test_clear_carrier_restarts :
    (next (exec (.clearCarrier .service) (ask (withCar track 0 { (carrier .returning (.loop 1)) with
        stall := ⟨some .front, false⟩, passage := { Passage.clear with stretch := .loop 1, n := 99, budget := 99, overrun := true } })
        .service .clearCarrier 1#8 [0#8]))).map (fun s => ((s.car 0).passage.n, (s.car 0).passage.budget, (s.car 0).passage.stopPoint)) =
      some (0, 71, some 40) := by decide +kernel

/-- Two bytes; kind 3; EDIT; INVALID; section 8 of 8, and station 5, of kind NONE; a count of 0; PARK; a jog running; an occupied section;
section 7, FREE, and held by a stalled carrier, in RUN; and the spur of station 3. -/
theorem witness_JogStarts :
    (Offered track .service .jog 1#8 [1#8, 0#8] fun _ => [1#8, 0#8].length ≠ 3) ∧
      (Offered track .service .jog 1#8 [3#8, 0#8, 1#8] fun _ => 3#8 ≠ 1#8 ∧ 3#8 ≠ 2#8) ∧
      (Offered editing .service .jog 1#8 [1#8, 7#8, 1#8] fun s => s.map.state = .edit) ∧
      (Offered State.reset .service .jog 1#8 [1#8, 7#8, 1#8] fun s => s.map.state = .invalid) ∧
      (Offered track .service .jog 1#8 [1#8, 8#8, 1#8] fun s =>
        s.map.state = .valid ∧ ∀ k : SectionId, ¬ ((8#8).toNat = k.val ∧ k.val < s.S)) ∧
      (Offered track .service .jog 1#8 [2#8, 5#8, 1#8] fun s =>
        s.map.state = .valid ∧ ∀ i : StationId, ¬ ((5#8).toNat = i.val + 1 ∧ s.map.kindOf i ≠ none)) ∧
      (Offered track .service .jog 1#8 [2#8, 3#8, 1#8] fun s =>
        s.map.state = .valid ∧ (3#8).toNat = (2 : StationId).val + 1 ∧ s.map.kindOf 2 ≠ none ∧ 1#8 ≠ 0#8 ∧ s.track.mode = .park) ∧
      (Offered ((inMode track .run).setJog (some ⟨.spur 2, 1, 0, 0#8⟩)) .service .jog 1#8 [1#8, 7#8, 255#8] fun s =>
        ¬ (s.track.mode = .park ∨ s.track.mode = .survey) ∧ s.cars.jog.isSome = true) ∧
      (Offered ((inMode track .run).setSec 7 { (track.sec 7) with st := .occupied 3 }) .service .jog 1#8 [1#8, 7#8, 255#8] fun s =>
        s.cars.jog = none ∧ (s.sec 7).st = .occupied 3 ∧ (s.car 3).stalled = false) ∧
      (Offered ((withCar (inMode track .run) 3 { (carrier .returning (.loop 7)) with stall := ⟨some .front, false⟩ }).setSec 7
          { (track.sec 7) with st := .occupied 3 }) .service .jog 1#8 [1#8, 7#8, 255#8] fun s => s.cars.jog = none ∧ (s.sec 7).st = .occupied 3 ∧ (s.car 3).stalled = true) ∧
      Offered (inMode track .run) .service .jog 1#8 [1#8, 7#8, 255#8] fun s =>
        s.map.state = .valid ∧ (255#8).toNat ≠ 0 ∧ (7#8).toNat = (7 : SectionId).val ∧ (7 : SectionId).val < s.S ∧
          ¬ (s.track.mode = .park ∨ s.track.mode = .survey) ∧ s.cars.jog = none ∧ (s.sec 7).st = .free :=
  ⟨offered (by decide), offered (by decide), offered (by decide), offered (by decide), offered (by decide), offered (by decide),
    offered (by decide), offered (by decide), offered (by decide), offered (by decide), offered (by decide)⟩

/-- No fault recorded; one at section 31; and one without a place. -/
theorem witness_ReadTrackGivesTheModeRecord :
    (Offered track .service .readTrack 1#8 [] fun s => s.track.firstFault = none) ∧
      (Offered { track with track := track.track.record .stallLimit (.sectionAt 31) none } .service .readTrack 1#8 [] fun s =>
        s.track.firstFault = some ⟨.stallLimit, .sectionAt 31, none, 0⟩) ∧
      Offered { track with track := track.track.record .driveFail .none none } .service .readTrack 1#8 [] fun s =>
        s.track.firstFault = some ⟨.driveFail, .none, none, 0⟩ :=
  ⟨offered rfl, offered (by decide), offered (by decide)⟩

theorem witness_RecordsAreRead :
    (Offered track .counter .readSection 1#8 [31#8] fun _ => (31#8).toNat = (31 : SectionId).val) ∧
      (Offered track .service .readSection 1#8 [32#8] fun _ => 32 ≤ (32#8).toNat) ∧
      (Offered track .stock .readStation 1#8 [12#8] fun _ => Link.stock ≠ .counter ∧ (12#8).toNat = (11 : StationId).val + 1) ∧
      (Offered track .service .readStation 1#8 [13#8] fun _ => 13 ≤ (13#8).toNat) ∧
      (Offered track .counter .readCarrier 1#8 [15#8] fun _ => (15#8).toNat = (15 : CarrierId).val) ∧
      (Offered track .stock .readCarrier 1#8 [16#8] fun _ => 16 ≤ (16#8).toNat) ∧
      (ask track .service .readLines 1#8 []).offers .service .readLines 1#8 [] ∧
      (ask track .stock .readLink 1#8 []).offers .stock .readLink 1#8 [] ∧
      (Offered track .service .readLink 1#8 [1#8] fun _ => [1#8] = [BitVec.ofNat 8 (Machine.Link.code .stock)]) ∧
      (Offered track .stock .readLink 1#8 [2#8] fun _ => [2#8] = [BitVec.ofNat 8 (Machine.Link.code .service)] ∧ Link.stock ≠ .service) ∧
      (Offered track .stock .readLink 1#8 [3#8] fun _ => 3 ≤ (3#8).toNat) ∧
      Offered track .stock .readLink 1#8 [1#8, 0#8] fun _ => 2 ≤ [1#8, 0#8].length :=
  ⟨offered (by decide), offered (by decide), offered (by decide), offered (by decide), offered (by decide), offered (by decide),
    ask_offers .., ask_offers .., offered (by decide), offered (by decide), offered (by decide), offered (by decide)⟩

/-- With every item active low, a low E_7 of 8 sections is active, and so is a low E_8, which is not in use (R22, R34). With item 8 unset, a
low E_8 is inactive (R1). -/
theorem test_polarity_of_items :
    let s := { track with map := { testMap with sections := Vector.replicate 32 (some ⟨64, .activeLow⟩) } }
    s.active (.entry 7) = true ∧ s.active (.entry 8) = true ∧ (s.filter (.entry 8)).accepted = false ∧
      track.active (.entry 8) = false := by decide

theorem witness_MillisecondEvent :
    (tget track.line.filters 0).due = false ∧ track.time.ms < 999 ∧ ({ track with time := ⟨999, false⟩ } : State).time.ms = 999 ∧
      track.track.mode ≠ .warmup ∧ (inMode track .warmup).track.mode = .warmup ∧
      ({ track with track := { track.track with warmCount := 49, warmW := 1 } } : State).track.warmCount < 50 * 1 := by decide

theorem witness_SecondEventAges : ({ track with time := ⟨0, true⟩ } : State).time.secondDue = true := rfl

/-- An INVALID map; and section 8 of 8, at a LEAD and at a TRAIL; a sensor with a reader and one without. -/
theorem witness_EventsAreDropped :
    Sensor.entry 8 ≠ .driveReady ∧ ((due track (.entry 8) false).filter (.entry 8)).due = true ∧
      (due track (.entry 8) false).inUse (.entry 8) = false ∧ (due State.reset (.dock 0) true).map.state ≠ .valid ∧
      (due track (.entry 8) false).active (.entry 8) = false ∧ (due track (.entry 8) true).active (.entry 8) = true ∧
      readerOf (.entry 8) = some 8 ∧ readerOf (.spurEntry 0) ≠ some 0 := by decide

/-- Carrier 3 in section 6, the next section reserved for it. -/
def entering : State :=
  due ((track.setSec 6 { (track.sec 6) with st := .occupied 3 }).setSec 7 { (track.sec 7) with st := .reserved 3 .loop }) (.entry 7) false

theorem witness_EntryOccupiesTheSection :
    entering.map.state = .valid ∧ (7 : SectionId).val < entering.S ∧ entering.sweeping = false ∧
      (entering.filter (.entry 7)).due = true ∧ entering.active (.entry 7) = false ∧ entering.prevSec 7 ≠ 7 ∧ entering.nextSec 7 ≠ 7 ∧
      tget entering.line.slots ⟨7, by omega⟩ = .empty ∧ (entering.sec 7).st = .reserved 3 .loop := by decide

/-- Carrier 3 enters along the loop with its tail at E_6, section 5 TRAILING for it and not, and with section 6 not its own; and from
the launch of the depot at junction 6, its dock still LAUNCHING and not. -/
theorem witness_EntryOccupiesTheSection_behind :
    let late := (entering.setSec 6 { (entering.sec 6) with tailPending := true }).setSec 5 { (track.sec 5) with st := .trailing 3 }
    let launch : Dock → State := fun d =>
      ((entering.setSec 6 SectionRec.reset).setSec 7 { (track.sec 7) with st := .reserved 3 .merge }).setStn 3
        { (track.stn 3) with queue := [3, 5], dock := d, launchPending := some 3, launchGranted := true }
    (entering.sec 6).st = .occupied 3 ∧ (entering.sec 6).tailPending = false ∧ entering.prevSec 6 = 5 ∧
      (late.sec 6).tailPending = true ∧ (late.sec 5).st = .trailing 3 ∧
      ((entering.setSec 6 SectionRec.reset).sec 6).st ≠ .occupied 3 ∧
      ((launch (.launching 3)).sec 7).st = .reserved 3 .merge ∧ ((launch (.launching 3)).sec 6).st ≠ .occupied 3 ∧
      ((launch (.launching 3)).stn 3).launchPending = some 3 ∧ ((launch (.launching 3)).stn 3).launchGranted = true ∧
      (∀ j, ((launch (.launching 3)).stn j).launchPending = some 3 → j = 3) ∧
      ((launch (.launching 3)).stn 3).heldLaunch = none ∧ ((launch (.launching 3)).stn 3).dock = .launching 3 ∧
      (∀ d : CarrierId, ((launch .empty).stn 3).dock ≠ .launching d) := by decide

/-- That launch with carrier 5 docked behind it and its launch held: carrier 5 becomes pending and claims section 7 (R89, R91). -/
def heldBehind : State :=
  ((entering.setSec 6 SectionRec.reset).setSec 7 { (track.sec 7) with st := .reserved 3 .merge }).setStn 3
    { (track.stn 3) with queue := [3, 5], dock := .docked 5, launchPending := some 3, launchGranted := true, heldLaunch := some 5 }

theorem witness_EntryOccupiesTheSection_held :
    (heldBehind.sec 7).st = .reserved 3 .merge ∧ (heldBehind.sec 6).st ≠ .occupied 3 ∧ (heldBehind.stn 3).launchPending = some 3 ∧
      (heldBehind.stn 3).launchGranted = true ∧ (∀ j, (heldBehind.stn j).launchPending = some 3 → j = 3) ∧
      (heldBehind.stn 3).heldLaunch = some 5 ∧ (heldBehind.stn 3).dock = .docked 5 ∧ heldBehind.mergeSec 3 = 7 ∧
      heldBehind.active (.entry 7) = false ∧ (heldBehind.filter (.entry 7)).due = true := by decide

theorem test_held_launch_is_requested :
    (next (exec (.sensorLevelAccepted (.entry 7)) heldBehind)).map
        (fun s => ((s.stn 3).launchPending, (s.stn 3).heldLaunch, (s.sec 7).mergeClaim, s.secs.admission)) =
      some (some 5, none, some 3, [3]) := by decide

/-- Carrier 3 in section 7 with its tail at E_7 and section 6 TRAILING for it, its watch of E_7 armed. -/
def clearing : State :=
  due (withCar ((track.setSec 6 { (track.sec 6) with st := .trailing 3 }).setSec 7
    { (track.sec 7) with st := .occupied 3, tailPending := true, awaited := .carrier 3 }) 3
      { (carrier .returning (.loop 7)) with passage := Passage.clear.arm (.entry 7) 5 44 }) (.entry 7) true

/-- The TRAIL of E_7 with and without a tail pending, with section 6 TRAILING and not, with a watch of E_7 and without. -/
theorem witness_EntryOccupiesTheSection_trail :
    clearing.map.state = .valid ∧ (7 : SectionId).val < clearing.S ∧ clearing.sweeping = false ∧
      (clearing.filter (.entry 7)).due = true ∧ clearing.active (.entry 7) = true ∧ clearing.prevSec 7 = 6 ∧
      (clearing.sec 7).tailPending = true ∧ (clearing.sec 7).st.holder = some 3 ∧ (clearing.sec 6).st = .trailing 3 ∧
      (clearing.car 3).passage.watch = some (.entry 7) ∧
      ((clearing.setSec 6 SectionRec.reset).sec 6).st ≠ .trailing 3 ∧
      ((withCar clearing 3 (carrier .returning (.loop 7))).car 3).passage.watch ≠ some (.entry 7) ∧
      ((due track (.entry 7) true).sec 7).tailPending = false ∧ (due track (.entry 7) true).active (.entry 7) = true := by decide

/-- Section 6 is freed at that TRAIL and the watch ends with its count kept (R69, R49). -/
theorem test_trail_frees :
    (next (exec (.sensorLevelAccepted (.entry 7)) clearing)).map
        (fun s => ((s.sec 6).st, (s.sec 7).tailPending, (s.car 3).passage.watch, (s.car 3).passage.t)) =
      some (.free, false, none, 5) := by decide

/-- A read result of E_7 for an awaited carrier, for an unexpected one and for none. -/
theorem witness_EntryOccupiesTheSection_read :
    (clearing.sec 7).awaited = .carrier 3 ∧ clearing.provisional 3 = false ∧ (4 : CarrierId) ≠ 3 ∧
      ((track.setSec 7 { (track.sec 7) with awaited := .unexpected }).sec 7).awaited = .unexpected ∧
      (track.sec 7).awaited = .none := by decide

/-- Carrier 3 in junction 4, a place in the depot's spur granted. -/
def diverting : State :=
  due ((track.setSec 4 { (track.sec 4) with st := .occupied 3, spurPlace := some 2 }).setStn 2 { (track.stn 2) with inbound := 1 })
    (.spurEntry 2) false

/-- Carrier 3 moving up to the counter with an order. -/
def docking : State :=
  due ((withCar (booked (order .toCounter)) 3 { (carrier .delivering (.queue 1 0)) with dest := some 1, order := some 1 }).setStn 1
    { (track.stn 1) with queue := [3], movingUp := some 3 }) (.dock 1) false

theorem witness_SpurEntryAndDocking :
    (diverting.map.state = .valid ∧ (diverting.map.kindOf 2).isSome = true ∧ (diverting.filter (.spurEntry 2)).due = true ∧
        diverting.active (.spurEntry 2) = false ∧ (diverting.stn 2).inbound ≠ 0 ∧ (diverting.stn 2).junction = 4 ∧
        (diverting.sec 4).st = .occupied 3 ∧ (diverting.sec 4).spurPlace = some 2 ∧ (diverting.stn 2).dock = .empty ∧
        (diverting.stn 2).movingUp = none ∧ (diverting.stn 2).launchPending ≠ some 3) ∧
      (docking.map.state = .valid ∧ (docking.map.kindOf 1).isSome = true ∧ (docking.filter (.dock 1)).due = true ∧
        docking.active (.dock 1) = false ∧ tget docking.line.slots ⟨33, by omega⟩ = .empty ∧ docking.driving 1 = false ∧
        (docking.stn 1).movingUp = some 3 ∧ (docking.stn 1).kind = some .counter ∧ (docking.car 3).state = .delivering ∧
        (docking.car 3).dest = some 1 ∧ docking.orderOfCar 3 = some (order .toCounter)) := by decide

/-- Carrier 3 moving up in a station's spur, in a state and bound as given, with an order at the stock station. -/
def dockingAt (i : StationId) (x : CarState) (dest : Option StationId) (retire : Bool) : State :=
  due ((withCar (booked (order .assigned)) 3
    { (carrier x (.queue i 0)) with dest := dest, order := some 1, retirePending := retire }).setStn i
      { (track.stn i) with queue := [3], movingUp := some 3 }) (.dock i) false

/-- A docking at its stop and of a carrier with no work there; at a counter of one with none; at a depot RETURNING, IDLE and CALLED, with
and without a retirement pending; and the depot's N_3 with a carrier RETURNING and not. -/
theorem witness_SpurEntryAndDocking_kinds :
    (∀ i : StationId, i.val < 3 → ∀ retire : Bool,
      let s := dockingAt i .idle none retire
      s.map.state = .valid ∧ (s.map.kindOf i).isSome = true ∧ (s.filter (.dock i)).due = true ∧ s.active (.dock i) = false ∧
        tget s.line.slots ⟨32 + i.val, by omega⟩ = .empty ∧ s.driving i = false ∧ (s.stn i).movingUp = some 3 ∧
        (s.car 3).state = .idle ∧ (s.car 3).retirePending = retire) ∧
      ((dockingAt 0 .called (some 0) false).stn 0).kind = some .stock ∧ ((dockingAt 0 .called (some 0) false).car 3).state = .called ∧
      ((dockingAt 0 .called (some 0) false).car 3).dest = some 0 ∧
      (dockingAt 0 .called (some 0) false).orderOfCar 3 = some (order .assigned) ∧
      ((dockingAt 0 .returning (some 2) false).car 3).state ≠ .called ∧
      ((dockingAt 1 .returning (some 2) false).stn 1).kind = some .counter ∧
      ((dockingAt 1 .returning (some 2) false).car 3).state ≠ .delivering ∧
      ((dockingAt 2 .returning (some 2) true).stn 2).kind = some .depot ∧
      ((dockingAt 2 .returning (some 2) true).car 3).state = .returning ∧
      ((dockingAt 2 .called (some 0) false).car 3).state = .called ∧
      ((withCar diverting 3 (carrier .returning (.diverting 2))).car 3).state = .returning ∧ (diverting.stn 2).kind = some .depot ∧
      (diverting.car 3).state ≠ .returning := by decide

/-- At its stop the order is AT_STOCK, the carrier LOADING, and LOAD_CALL lists line 0, bin 5, one piece (R88, R128). -/
theorem test_dock_at_stock :
    (next (exec (.sensorLevelAccepted (.dock 0)) (dockingAt 0 .called (some 0) false))).map
        (fun s => (s.book.orders.map (·.state), (s.car 3).state, (s.link .stock).tx.tail)) =
      some ([.atStock], .loading, [⟨.notice .loadCall, 0#8, [0#8, 1#8, 1#8, 1#8, 0#8, 0#8, 5#8, 1#8]⟩]) := by decide

/-- Carrier 3 across N_3 behind junction 4, which is TRAILING for it, its watch of N_3 armed. -/
def spurClearing : State :=
  due (withCar ((track.setSec 4 { (track.sec 4) with st := .trailing 3 }).setStn 2
    { (track.stn 2) with queue := [3], entryPending := some 3 }) 3
      { (carrier .idle (.queue 2 0)) with passage := Passage.clear.arm (.spur 2) 5 44 }) (.spurEntry 2) true

/-- The TRAIL of N_3 with an entry pending and with none, with the junction TRAILING and not, with a watch of N_3 and without. -/
theorem witness_SpurEntryAndDocking_spur_trail :
    spurClearing.map.state = .valid ∧ (spurClearing.map.kindOf 2).isSome = true ∧
      (spurClearing.filter (.spurEntry 2)).due = true ∧ spurClearing.active (.spurEntry 2) = true ∧
      (spurClearing.stn 2).entryPending = some 3 ∧ (spurClearing.stn 2).junction = 4 ∧ (spurClearing.sec 4).st = .trailing 3 ∧
      (spurClearing.car 3).passage.watch = some (.spur 2) ∧ ((spurClearing.setSec 4 SectionRec.reset).sec 4).st ≠ .trailing 3 ∧
      ((withCar spurClearing 3 (carrier .idle (.queue 2 0))).car 3).passage.watch ≠ some (.spur 2) ∧
      ((due track (.spurEntry 2) true).stn 2).entryPending = none := by decide

/-- A state whose junction at the counter is TRAILING for carrier 3, which has not cleared N_2 (R56). -/
def tailAcross (s : State) : State :=
  (s.setSec (s.stn 1).junction { SectionRec.reset with st := .trailing 3 }).setStn 1 { (s.stn 1) with entryPending := some 3 }

/-- Carriers 3 and 5 in the counter's spur, carrier 3 at the dock as given, the dock sensor falling. -/
def undocking (d : Dock) (r : CarrierRec) : State :=
  due (withCar ((booked (order .atCounter)).setStn 1
    { (track.stn 1) with queue := [3, 5], dock := d, launchPending := some 3, heldLaunch := some 3 }) 3 { r with order := some 1 })
    (.dock 1) true

/-- The TRAIL of K_2 at an EMPTY dock, a LAUNCHING one (with carrier 5 to move up, and at a FOUND station), and a DOCKED one whose
carrier is REMOVING and is not, with and without a launch and an order. -/
theorem witness_SpurEntryAndDocking_dock_trail :
    ((undocking .empty CarrierRec.reset).map.state = .valid ∧ ((undocking .empty CarrierRec.reset).map.kindOf 1).isSome = true ∧
        ((undocking .empty CarrierRec.reset).filter (.dock 1)).due = true ∧ (undocking .empty CarrierRec.reset).active (.dock 1) = true ∧
        ((undocking .empty CarrierRec.reset).stn 1).dock = .empty) ∧
      (((undocking (.launching 3) CarrierRec.reset).stn 1).dock = .launching 3 ∧
        ((undocking (.launching 3) CarrierRec.reset).stn 1).movingUp = none ∧
        ((undocking (.launching 3) CarrierRec.reset).stn 1).firstWaiting = some 5 ∧
        (undocking (.launching 3) CarrierRec.reset).clearingOf 1 ≠ .found ∧
        ({ (undocking (.launching 3) CarrierRec.reset) with
          track := (surveying { SurveyRec.fresh with clearing := Vector.replicate 12 .found }).track } : State).clearingOf 1 = .found) ∧
      ((undocking (.docked 3) (carrier .removing (.docked 1))).stn 1).dock = .docked 3 ∧
      ((undocking (.docked 3) (carrier .removing (.docked 1))).car 3).state = .removing ∧
      ((undocking (.docked 3) (carrier .presenting (.docked 1))).car 3).state ≠ .removing ∧
      ((undocking (.docked 3) (carrier .presenting (.docked 1))).stn 1).launchPending = some 3 ∧
      ((undocking (.docked 3) (carrier .presenting (.docked 1))).stn 1).heldLaunch = some 3 ∧
      (undocking (.docked 3) (carrier .presenting (.docked 1))).orderOfCar 3 = some (order .atCounter) ∧
      (track.stn 1).launchPending ≠ some 3 ∧ track.orderOfCar 3 = none ∧
      (let s := undocking (.docked 3) (carrier .removing (.docked 1))
       let j := (s.stn 1).junction
       (s.sec j).st ≠ .trailing 3 ∧ ((tailAcross s).sec j).st = .trailing 3 ∧ (tailAcross s).mergeSec 1 ≠ j ∧
         ((tailAcross s).stn 1).junction = j ∧ ((tailAcross s).stn 1).dock = .docked 3) := by decide

/-- A carrier lifted off, REMOVING or not, before its TRAIL of N_2 holds its junction section no more (R56). -/
theorem test_removed_holds_no_section :
    ∀ x ∈ [CarState.removing, CarState.presenting],
      (next (exec (.sensorLevelAccepted (.dock 1)) (tailAcross (undocking (.docked 3) (carrier x (.docked 1)))))).map
        (fun s => ((s.sec (s.stn 1).junction).st, (s.stn 1).entryPending)) = some (.free, some 3) := by decide +kernel

/-- The carrier lifted off is UNKNOWN, its order gone and its claim withdrawn, and carrier 5 moves up (R93, R85). -/
theorem test_removed_unexpected :
    (next (exec (.sensorLevelAccepted (.dock 1)) (undocking (.docked 3) (carrier .presenting (.docked 1))))).map
        (fun s => ((s.car 3).state, (s.stn 1).queue, (s.stn 1).launchPending, (s.stn 1).movingUp, s.book.orders.length)) =
      some (.unknown, [5], none, some 5, 0) := by decide +kernel

/-- A read result of K_2 for an awaited carrier, for an unexpected one and for none. -/
theorem witness_SpurEntryAndDocking_read :
    let s := track.setStn 1 { (track.stn 1) with awaitedDock := .carrier 3 }
    s.map.state = .valid ∧ (s.map.kindOf 1).isSome = true ∧ s.clearingOf 1 = .none ∧ (s.stn 1).awaitedDock = .carrier 3 ∧
      s.provisional 3 = false ∧ (track.stn 1).awaitedDock = .none ∧
      ((track.setStn 1 { (track.stn 1) with awaitedDock := .unexpected }).stn 1).awaitedDock = .unexpected := by decide

/-- DRIVE_READY falls in PARK and in RUN, and rises; E_7 rises in a FREE section. -/
theorem witness_UnexpectedLevelsRaiseFaults :
    ((due track .driveReady true).filter .driveReady).due = true ∧ (due track .driveReady true).active .driveReady = true ∧
      (due track .driveReady true).track.mode = .park ∧
      ¬ ((due (inMode track .run) .driveReady true).track.mode = .park ∨ (due (inMode track .run) .driveReady true).track.mode = .warmup) ∧
      (due track .driveReady false).active .driveReady = false ∧
      ((due track (.entry 7) false).map.state = .valid ∧ (7 : SectionId).val < track.S ∧ track.sweeping = false ∧
        ((due track (.entry 7) false).filter (.entry 7)).due = true ∧ (due track (.entry 7) false).active (.entry 7) = false ∧
        tget track.line.slots ⟨7, by omega⟩ = .empty ∧ (track.sec 7).st = .free) := by decide

/-- N_3 rises with no place inbound, and with one for a junction nobody holds; K_2 rises with nothing moving up. -/
theorem witness_UnexpectedLevelsRaiseFaults_spur :
    let none := due track (.spurEntry 2) false
    let lost := due (track.setStn 2 { (track.stn 2) with inbound := 1 }) (.spurEntry 2) false
    let dock := due track (.dock 1) false
    none.map.state = .valid ∧ (none.map.kindOf 2).isSome = true ∧ (none.filter (.spurEntry 2)).due = true ∧
      none.active (.spurEntry 2) = false ∧ (none.stn 2).inbound = 0 ∧ (lost.stn 2).inbound ≠ 0 ∧
      (lost.sec (lost.stn 2).junction).st = .free ∧
      dock.map.state = .valid ∧ (dock.map.kindOf 1).isSome = true ∧ (dock.filter (.dock 1)).due = true ∧
      dock.active (.dock 1) = false ∧ tget dock.line.slots ⟨33, by omega⟩ = .empty ∧ dock.driving 1 = false ∧
      (dock.stn 1).movingUp = Option.none := by decide

/-- Reader 33, the counter's dock, in the three states of its slot; a carrier, no read, and the first and last ids that are neither;
reader 44; the reader of section 8 of 8; and a map that is not VALID. -/
theorem witness_ReportsMeetSlots :
    44 ≤ (44#8).toNat ∧ (8#8).toNat = (8 : ReaderId).val ∧ track.inUse (sensorOfReader 8) = false ∧
      (33#8).toNat = (33 : ReaderId).val ∧ 16 ≤ (16#8).toNat ∧ 16#8 ≠ 0xFF#8 ∧ 16 ≤ (254#8).toNat ∧ 254#8 ≠ 0xFF#8 ∧
      editing.map.state ≠ .valid ∧ editing.inUse (sensorOfReader 33) = true ∧ track.line.tagBreak = false ∧ track.line.tagHalf = none ∧ track.inUse (sensorOfReader 33) = true ∧
      (15#8).toNat = (15 : CarrierId).val ∧ tget track.line.slots 33 = .empty ∧
      tget (track.setSlot 33 (.leadWaiting 40)).line.slots 33 = .leadWaiting 40 ∧
      tget (track.setSlot 33 (.reportWaiting none 1)).line.slots 33 = .reportWaiting none 1 := by decide

theorem witness_TagPortFailures :
    track.line.tagBreak = false ∧ track.line.tagHalf = none ∧
      ({ track with line := { track.line with tagBreak := true } } : State).line.tagBreak = true ∧
      tget (track.setSlot 43 (.leadWaiting 0)).line.slots 43 = .leadWaiting 0 ∧
      tget (track.setSlot 43 (.reportWaiting none 0)).line.slots 43 = .reportWaiting none 0 := by decide

/-- A LEAD of E_7 due with its slot EMPTY, LEAD_WAITING and REPORT_WAITING; and sensors whose events are dropped. -/
theorem witness_TagPortFailures_lead :
    let s := due track (.entry 7) false
    readerOf (.entry 7) = some 7 ∧ (s.filter (.entry 7)).due = true ∧ s.active (.entry 7) = false ∧ tget s.line.slots 7 = .empty ∧
      tget (s.setSlot 7 (.leadWaiting 3)).line.slots 7 = .leadWaiting 3 ∧
      tget (s.setSlot 7 (.reportWaiting (some 5) 3)).line.slots 7 = .reportWaiting (some 5) 3 ∧
      editing.map.state ≠ .valid ∧ track.inUse (.entry 8) = false := by decide

/-- A report held at E_7 for carrier 5, whose entry it is: the slot is EMPTY after the LEAD, and the read clears its misreads (R25, R109). -/
theorem test_lead_with_report :
    let s := withCar (track.setSec 7 { (track.sec 7) with st := .reserved 5 .loop }) 5 { (carrier .returning (.loop 6)) with misreads := 2 }
    (next (exec (.sensorLevelAccepted (.entry 7)) ((due s (.entry 7) false).setSlot 7 (.reportWaiting (some 5) 3)))).map
        (fun t => (tget t.line.slots 7, (t.car 5).misreads, (t.sec 7).awaited)) = some (.empty, 0, .none) := by decide +kernel

/-- Carriers 3 and 5 in sections 7 and 6, both drives active, one step short of a budget and of a trail budget; a stall limit of 2. -/
def pulsing : State :=
  let s := { (inMode track .run) with
    gen := ⟨some 5120⟩, map := { testMap with params := { testMap.params with stallLimit := 2 } } }
  let s := withCar s 3 { (carrier .returning (.loop 7)) with
    passage := { Passage.clear with stretch := .loop 7, n := 70, budget := 71, watch := some (.entry 7), t := 4, trailBudget := 44 } }
  let s := withCar s 5 { (carrier .returning (.loop 6)) with
    passage := { Passage.clear with stretch := .loop 6, n := 4, budget := 71, watch := some (.entry 6), t := 43, trailBudget := 44 } }
  let s := (s.setSec 7 { (s.sec 7) with st := .occupied 3 }).setSec 6 { (s.sec 6) with st := .occupied 5 }
  s.modLatches fun l => { l with d := tset (tset l.d 6 true) 7 true }

/-- A stopped generator; one that runs; and a step event that holds the track, without a jog and with one. -/
theorem witness_EachPulseCounts :
    track.gen.interval = none ∧ pulsing.gen.interval.isSome = true ∧ pulsing.stepPulse.track.mode ≠ pulsing.track.mode ∧
      pulsing.cars.jog = none ∧ pulsing.divisor.isSome = true ∧
      (pulsing.setJog (some ⟨.spur 2, 2, 0, 0#8⟩)).cars.jog.isSome = true ∧
      (inMode { track with gen := ⟨some 5120⟩ } .run).stepPulse.track.mode = .run := by decide +kernel

/-- That step event stalls both carriers, by FRONT and by TAIL, and raises STALL_LIMIT once, for carrier 5 (R47, R49, R106). -/
theorem test_step_stalls :
    ((pulsing.stepPulse.car 3).stall, (pulsing.stepPulse.car 5).stall, pulsing.stepPulse.cars.stalledCount,
        pulsing.stepPulse.track.firstFault) =
      (⟨some .front, false⟩, ⟨none, true⟩, 2, some ⟨.stallLimit, .sectionAt 6, some 5, 0⟩) := by decide +kernel

/-- A carrier at the count before its stop point in section 7; and one in a spur's queue that overruns. -/
theorem witness_EachPulseCounts_stop :
    let s := withCar pulsing 3 { (pulsing.car 3) with passage := { (pulsing.car 3).passage with stopPoint := some 71 } }
    let w := (withCar (pulsing.setStn 2 { (pulsing.stn 2) with queue := [3] }) 3 { (pulsing.car 3) with place := .queue 2 0 })
    s.stretchLatch s.line.latches (s.car 3).passage.stretch = true ∧ (s.car 3).passage.n < 4095 ∧
      (s.car 3).passage.stopPoint = some ((s.car 3).passage.n + 1) ∧ s.occupiedBy 3 = some 7 ∧
      (∀ c, s.occupiedBy c ≠ some 5) ∧ w.spurOf 3 = some 2 ∧ 3 ∈ (w.stn 2).queue ∧ w.sweeping = false ∧
      (w.car 3).passage.n + 1 = (w.car 3).passage.budget ∧ (w.car 3).passage.overrun = false := by decide

/-- A carrier with no reservation ahead whose count reaches its stop point has its drive inactive, and is not stalled (R44, R72). -/
theorem test_stop_point :
    let s := withCar pulsing 3 { (pulsing.car 3) with passage := { (pulsing.car 3).passage with budget := 90, stopPoint := some 71 } }
    tget s.line.latches.d 7 = true ∧ tget s.stepPulse.line.latches.d 7 = false ∧ (s.stepPulse.car 3).stalled = false := by
  decide +kernel

/-- A sweep and no sweep; a carrier's section and spur to which an overrun applies the rules; and a count at the stall limit. -/
theorem witness_EachPulseCounts_drives :
    (surveying { SurveyRec.fresh with phase := .sweep }).sweeping = true ∧ pulsing.sweeping = false ∧
      pulsing.occupiedBy 3 = some 7 ∧ spurClearing.spurOf 3 = some 2 ∧ (pulsing.car 3).stalled = false ∧
      (pulsing.setStalledCount 1).map.params.stallLimit ≤ (pulsing.setStalledCount 1).cars.stalledCount + 1 := by decide

theorem witness_JogAndCountdownEnd :
    (track.setJog (some ⟨.spur 2, 0, 255, 0#8⟩)).cars.jog = some ⟨.spur 2, 0, 255, 0#8⟩ ∧ track.cars.jog = none ∧
      (track.setJog (some ⟨.spur 2, 1, 254, 0#8⟩)).cars.jog = some ⟨.spur 2, 1, 254, 0#8⟩ ∧ track.track.mode = .park ∧
      (inMode track .slow).track.mode = .slow ∧
      ({ track with track := { track.track with countdown := some 0 } } : State).track.countdown = some 0 ∧
      track.track.countdown ≠ some 0 := by decide

/-- A warm-up at its end and at its failure, with W = 1 and each pending completion. -/
theorem witness_WarmupEnds :
    let s := { (inMode track .warmup) with track := { (inMode track .warmup).track with warmCount := 50, warmW := 1 } }
    s.track.mode = .warmup ∧ 10 * s.track.warmW ≤ s.track.warmCount ∧ 50 * s.track.warmW ≤ s.track.warmCount ∧
      s.active .driveReady = false ∧ (s.setFilter .driveReady ⟨true, 0, false⟩).active .driveReady = true ∧
      s.track.completion = .none ∧
      ({ s with track := { s.track with completion := .survey 1#8 } } : State).track.completion = .survey 1#8 ∧
      ({ s with track := { s.track with completion := .resume 1#8 } } : State).track.completion = .resume 1#8 := by decide

/-- The part in its sweep, carrier 1 in service and the others UNKNOWN, with a survey record. -/
def sweeping (v : SurveyRec) : State := withCar (surveying { v with phase := .sweep }) 1 (carrier .idle (.docked 2))

/-- A marker of section 6, far enough on for a LEAD of E_7, whose TRAIL has not been seen. -/
def mark : Marker := ⟨0, 6, none, 44, false, 1⟩

/-- A marker of section 7 named carrier 2, past its budget, its tail still at E_7. -/
def named : Marker := ⟨0, 7, some 2, 71, false, 0⟩

/-- A survey that waits for its warm-up, with no entry sensor active; and with E_7 active and no carrier UNKNOWN. -/
theorem witness_SweepAndClearingEnd_begin :
    let v := SurveyRec.fresh
    let full : State := { crowdedLoop with track := (inMode (surveying v) .warmup).track }
    (inMode (surveying v) .warmup).track.survey = some v ∧ (inMode (surveying v) .warmup).track.mode ≠ .survey ∧
      (inMode (surveying v) .warmup).activeEntries.length ≤ (inMode (surveying v) .warmup).unknownCount ∧
      full.track.survey = some v ∧ full.track.mode ≠ .survey ∧ full.activeEntries[full.unknownCount]? = some 7 ∧
      full.track.firstFault = none := by decide

/-- A sound track at a step event of the sweep, and of the clearing with a DRIVING station whose drive is active. -/
theorem witness_SweepAndClearingEnd_step :
    let on : SurveyRec → State := fun v =>
      { (surveying v).modLatches (fun l => { l with driveOn := true, q := Vector.replicate 12 true }) with gen := ⟨some 10240⟩ }
    let v := { SurveyRec.fresh with phase := .sweep, sweepCount := 9, markers := [mark] }
    let w := { SurveyRec.fresh with phase := .clearing, clearing := tset SurveyRec.fresh.clearing 0 (.driving 17 18 false) }
    (on v).trackSound ∧ (on w).trackSound ∧ (on v).track.survey = some v ∧ (on w).track.survey = some w ∧
      (on v).stepPulse.track.mode = (on v).track.mode ∧ (on w).stepPulse.track.mode = (on w).track.mode ∧
      (on v).sweeping = true ∧ (on w).sweeping = false ∧ tget w.clearing 0 = .driving 17 18 false ∧
      tget (on w).line.latches.q 0 = true := by
  refine ⟨⟨rfl, rfl, rfl, by decide, by decide, by decide, fun _ h => absurd h (by decide)⟩,
    ⟨rfl, rfl, rfl, by decide, by decide, by decide, fun _ h => absurd h (by decide)⟩, ?_⟩
  decide +kernel

/-- A LEAD of E_7 that moves a marker, one that makes one, and one with no UNKNOWN carrier left; a TRAIL of E_6 and of E_7. -/
theorem witness_SweepAndClearingEnd_edges :
    let v := { SurveyRec.fresh with phase := .sweep, markers := [mark], nextId := 1 }
    let s := due (sweeping v) (.entry 7) false
    let full : State := { s with cars := { s.cars with recs := Vector.replicate 16 (carrier .out .none) } }
    s.map.state = .valid ∧ (7 : SectionId).val < s.S ∧ s.sweeping = true ∧ s.track.survey = some v ∧
      (s.filter (.entry 7)).due = true ∧ s.active (.entry 7) = false ∧ tget s.line.slots ⟨7, by omega⟩ = .empty ∧
      (v.markers.find? fun m => m.sec == s.prevSec 7 &&
        decide (s.map.sectionLen (s.prevSec 7) - s.map.params.carrierLen / 2 ≤ m.count)) = some mark ∧
      ([{ mark with count := 43 }].find? fun m => m.sec == s.prevSec 7 &&
        decide (s.map.sectionLen (s.prevSec 7) - s.map.params.carrierLen / 2 ≤ m.count)) = none ∧
      v.markers.length < s.unknownCount ∧ full.unknownCount ≤ v.markers.length ∧
      (due (sweeping v) (.entry 6) true).active (.entry 6) = true ∧
      (v.markers.find? fun m => m.sec == 6 && !m.trailSeen) = some mark ∧
      (v.markers.find? fun m => m.sec == 7 && !m.trailSeen) = none := by decide

/-- A read of E_7 with no marker awaited; with an anonymous one, and a carrier that may and may not name it, and the second and the third
NO_READ; and with a named one. -/
theorem witness_SweepAndClearingEnd_reads :
    let v := { SurveyRec.fresh with phase := .sweep, markers := [mark, { named with id := 1 }] }
    let w := { v with awaited := tset v.awaited 7 (some 0) }
    let x := { v with awaited := tset v.awaited 7 (some 1) }
    (sweeping w).map.state = .valid ∧ (sweeping w).sweeping = true ∧ (sweeping w).track.survey = some w ∧
      tget v.awaited 7 = none ∧ tget w.awaited 7 = some 0 ∧ (w.markers.find? fun m => m.id == 0) = some mark ∧ mark.carrier = none ∧
      ((sweeping w).car 3).state = .unknown ∧ (∀ m ∈ w.markers, m.carrier ≠ some 3) ∧ ((sweeping w).car 1).state ≠ .unknown ∧
      (∃ m ∈ w.markers, m.carrier = some 2) ∧ mark.unread < 2 ∧ 2 ≤ ({ mark with unread := 2 } : Marker).unread ∧
      tget x.awaited 7 = some 1 ∧ (x.markers.find? fun m => m.id == 1) = some { named with id := 1 } := by decide

/-- A sweep that ends with an anonymous marker behind a named one, with two markers in section 7 behind one in section 6, and with one named
marker, whose tail is pending and whose record no other marker and no launch touches. -/
theorem witness_SweepAndClearingEnd :
    let v := { SurveyRec.fresh with phase := .sweep, markers := [named] }
    let unnamed := [⟨1, 6, some 1, 9, true, 0⟩, ({ named with carrier := none } : Marker)]
    let pair := [⟨1, 6, some 1, 9, true, 0⟩, named, ({ named with id := 2, carrier := some 4 } : Marker)]
    (surveying v).track.survey = some v ∧ (surveying v).track.mode = .survey ∧ v.phase = .sweep ∧ v.sweepCount = 0 ∧
      (∃ m ∈ unnamed.filter fun m => m.sec == 7, m.carrier = none) ∧
      (∀ k : SectionId, k < 7 → ∀ m ∈ unnamed.filter fun m => m.sec == k, m.carrier ≠ none) ∧
      (∀ m ∈ pair, m.carrier ≠ none) ∧
      (pair.filter fun m => m.sec == 7) = named :: { named with id := 2, carrier := some 4 } :: [] ∧
      (∀ k : SectionId, k < 7 → (pair.filter fun m => m.sec == k).length ≤ 1) ∧
      (∀ m ∈ v.markers, m.carrier ≠ none) ∧ (∀ k : SectionId, (v.markers.filter fun m => m.sec == k).length ≤ 1) ∧
      named ∈ v.markers ∧ named.carrier = some 2 ∧ named.trailSeen = false ∧ (∀ x ∈ v.markers, x.sec ≠ (surveying v).prevSec 7) ∧
      (∀ x ∈ v.markers, x = named) ∧ (∀ i, ((surveying v).stn i).launchPending ≠ some 2) := by decide

/-- What tracking that marker leaves: section 7 OCCUPIED and section 6 TRAILING, FRONT and TAIL overrun at once (R171, R74, R53). -/
theorem test_tracked :
    let v := { SurveyRec.fresh with phase := .sweep, markers := [named] }
    let t := (surveying v).trackAll v
    ((t.sec 7).st, (t.sec 6).st, (t.car 2).state, (t.car 2).place, (t.car 2).stall) =
        (.occupied 2, .trailing 2, .returning, .loop 7, ⟨some .front, true⟩) ∧
      t.secs.population = 1 ∧ t.track.survey.map (·.phase) = some .clearing := by decide +kernel

/-- The clearing begins at station 1 with K_1 inactive, and active with a read waiting in its slot and without; no survey, and the depot. -/
theorem witness_SweepAndClearingEnd_start :
    let v := { SurveyRec.fresh with phase := .clearing }
    let s := (surveying v).setFilter (.dock 0) ⟨true, 0, false⟩
    s.track.survey = some v ∧ ((s.stn 0).kind = some .stock ∨ (s.stn 0).kind = some .counter) ∧
      (surveying v).active (.dock 0) = false ∧ s.active (.dock 0) = true ∧
      tget (s.setSlot ⟨32, by omega⟩ (.reportWaiting (some 4) 9)).line.slots ⟨32, by omega⟩ = .reportWaiting (some 4) 9 ∧
      tget s.line.slots ⟨32, by omega⟩ = .empty ∧ track.track.survey = none ∧ (s.stn 2).kind = some .depot := by decide

/-- That read names the head, carrier 4, the station is FOUND and the slot EMPTY; an inactive K_1 makes it DRIVING, with budget
(16 × 110 + 99) div 100 (R172). -/
theorem test_clearing_starts :
    let v := { SurveyRec.fresh with phase := .clearing }
    let s := ((surveying v).setFilter (.dock 0) ⟨true, 0, false⟩).setSlot ⟨32, by omega⟩ (.reportWaiting (some 4) 9)
    ((s.startClearing 0).stn 0).queue = [4] ∧ (s.startClearing 0).clearingOf 0 = .found ∧
      tget (s.startClearing 0).line.slots ⟨32, by omega⟩ = .empty ∧
      ((surveying v).startClearing 0).clearingOf 0 = .driving 0 18 false := by decide +kernel

/-- A DRIVING station at its budget; a LEAD of its K_s; and its read with an UNKNOWN carrier, one in service, and none left UNKNOWN. -/
theorem witness_SweepAndClearingEnd_clearing :
    let v := { SurveyRec.fresh with phase := .clearing, clearing := tset SurveyRec.fresh.clearing 0 (.driving 18 18 true) }
    let s := due (withCar (surveying v) 1 (carrier .idle (.docked 2))) (.dock 0) false
    s.track.survey = some v ∧ tget v.clearing 0 = .driving 18 18 true ∧ s.map.state = .valid ∧ (s.map.kindOf 0).isSome = true ∧
      (s.filter (.dock 0)).due = true ∧ s.active (.dock 0) = false ∧ tget s.line.slots ⟨32, by omega⟩ = .empty ∧
      ((s.car 3).state = .unknown ∧ 3 ∉ v.tracked) ∧ ¬ ((s.car 1).state = .unknown) ∧
      ((s.car 0).state = .unknown ∧ 0 ∉ v.tracked) ∧ (∀ c, (crowdedLoop.car c).state ≠ .unknown) ∧
      (s.stn 0).launchPending = none := by decide

/-- Provisional carrier 2, its read awaited at E_7 and at K_1. -/
theorem witness_SweepAndClearingEnd_awaited :
    let v := { SurveyRec.fresh with phase := .clearing, tracked := [2], provisional := [2] }
    let s := ((surveying v).setSec 7 { (track.sec 7) with awaited := .carrier 2 }).setStn 0
      { (track.stn 0) with awaitedDock := .carrier 2 }
    s.track.survey = some v ∧ 2 ∈ v.provisional ∧ s.map.state = .valid ∧ (7 : SectionId).val < s.S ∧ s.sweeping = false ∧
      (s.sec 7).awaited = .carrier 2 ∧ (s.map.kindOf 0).isSome = true ∧ tget v.clearing 0 = .none ∧
      (s.stn 0).awaitedDock = .carrier 2 := by decide

/-- A provisional carrier 2 in section 7, read as itself, as an UNKNOWN carrier and as one in service. -/
theorem witness_SweepAndClearingEnd_provisional :
    let v := { SurveyRec.fresh with phase := .clearing, tracked := [2], provisional := [2] }
    let s := (withCar (surveying v) 1 (carrier .idle (.docked 2))).setSec 7 { (track.sec 7) with st := .occupied 2, loopClaim := some 2 }
    s.track.survey = some v ∧ (4 : CarrierId) ≠ 2 ∧ ((s.car 4).state = .unknown ∧ 4 ∉ v.tracked) ∧
      ¬ ((s.car 1).state = .unknown) ∧ (s.sec 7).st = .occupied 2 ∧ (s.sec 7).loopClaim = some 2 := by decide

/-- Section 5 behind the depot's junction: no claim, a loop claim alone, both with one passover and with two, and a merge claim alone. -/
theorem witness_ArbiterBoundsPassovers :
    (track.setSec 5 { (track.sec 5) with st := .occupied 1 }).sec 5 ≠ track.sec 5 ∧ (track.sec 5).st = .free ∧
      (track.sec 5).loopClaim = none ∧ (track.sec 5).mergeClaim = none ∧ track.admissible = true ∧
      ((track.setSec 5 { (track.sec 5) with loopClaim := some 3, mergeClaim := some 2, passovers := 1 }).sec 5).passovers < 2 ∧
      2 ≤ ((track.setSec 5 { (track.sec 5) with loopClaim := some 3, mergeClaim := some 2, passovers := 2 }).sec 5).passovers ∧
      ((track.setSec 5 { (track.sec 5) with mergeClaim := some 2 }).sec 5).loopClaim = none ∧
      ((track.setStn 2 { (track.stn 2) with launchPending := some 4 }).stn 2).launchPending = some 4 ∧
      (track.setPopulation 6).admissible = false := by decide

/-- Launches of stations 2 and 3 wait, the older claim's section 3 held and the other's section 5 FREE. -/
def crowdedOut : State :=
  let s := (track.setStn 1 { (track.stn 1) with launchPending := some 3 }).setStn 2 { (track.stn 2) with launchPending := some 4 }
  let s := (s.setSec 3 { (s.sec 3) with st := .occupied 7, mergeClaim := some 1 }).setSec 5 { (s.sec 5) with mergeClaim := some 2 }
  { s with secs := { s.secs with admission := [1, 2], population := 6 } }

/-- The admission queue with p at A; with p below it and the older claim's section held; and with every section held. -/
theorem witness_ArbiterBoundsPassovers_reexamine :
    let s := crowdedOut.setPopulation 5
    crowdedOut.admissible = false ∧ s.admissible = true ∧ s.secs.admission = [1] ++ 2 :: [] ∧ s.mergeSec 1 = 3 ∧ s.mergeSec 2 = 5 ∧
      (s.sec 3).st ≠ .free ∧ (s.sec 5).st = .free ∧ (s.sec 5).mergeClaim = some 2 ∧
      ({ s with secs := { s.secs with admission := [1] } } : State).secs.admission = [1] := by decide

/-- p falls from A: the claim of the held section keeps its place, and the one behind it is granted (R62). -/
theorem test_reexamine :
    (crowdedOut.dropPopulation.secs.admission, crowdedOut.dropPopulation.secs.population, (crowdedOut.dropPopulation.sec 5).st) =
      ([1], 6, .reserved 4 .merge) := by decide

/-- Carrier 3 in a section and a state, bound for a station, with its order. -/
def seeking (x : CarState) (dest : Option StationId) (rounds : Nat) : State :=
  withCar (booked (order .toCounter)) 3 { (carrier x (.loop 2)) with dest := dest, order := some 1, goArounds := rounds }

/-- Section 1, no junction; junction 2, of the counter, for carriers that seek it, with and without room and at the go-around limit, and
for one that does not; and the depot's junction 4. -/
theorem witness_ArbiterBoundsPassovers_claims :
    let full : State → State := fun s => s.setStn 1 { (s.stn 1) with inbound := 3 }
    (∀ i, (track.stn i).kind ≠ none → (track.stn i).junction ≠ 1) ∧
      (track.stn 1).kind ≠ none ∧ (track.stn 1).junction = 2 ∧
      (∀ j, (track.stn j).kind ≠ none → (track.stn j).junction = 2 → j = 1) ∧
      (track.stn 1).kind = some .counter ∧ ((seeking .delivering (some 1) 2).car 3).state = .delivering ∧
      ((seeking .delivering (some 1) 2).car 3).dest = some 1 ∧ (track.stn 1).queue.length + (track.stn 1).inbound < (track.stn 1).capacity ∧
      ((full track).stn 1).capacity ≤ ((full track).stn 1).queue.length + ((full track).stn 1).inbound ∧
      ((seeking .delivering (some 1) 2).car 3).goArounds + 1 = track.map.params.goAround ∧
      ((seeking .delivering (some 1) 1).car 3).goArounds + 1 ≠ track.map.params.goAround ∧
      (seeking .delivering (some 1) 2).orderOfCar 3 = some (order .toCounter) ∧
      ((seeking .called (some 0) 0).car 3).state ≠ .delivering ∧ ((seeking .called (some 0) 0).car 3).state ≠ .returning ∧
      (track.stn 2).kind = some .depot ∧ ((seeking .returning (some 3) 0).car 3).state = .returning ∧
      ((seeking .returning (some 3) 0).car 3).dest ≠ some 2 := by decide

/-- At the limit of 3 a full counter sends carrier 3 round, and CIRCLING tells ticket 1, window 1, station 2 and the count (R81). -/
theorem test_circling :
    let s := (seeking .delivering (some 1) 2).setStn 1 { (track.stn 1) with inbound := 3 }
    (((s.claimNext 3 2).link .counter).tx.tail, ((s.claimNext 3 2).car 3).goArounds, ((s.claimNext 3 2).sec 3).st) =
      ([⟨.notice .circling, 0#8, [0#8, 1#8, 1#8, 2#8, 3#8]⟩], 3, .reserved 3 .loop) := by decide

/-- Carriers 7 and 3 sections short of the order's stop. -/
theorem witness_DispatcherOrders :
    (withCar (withCar track 3 (carrier .returning (.loop 1))) 5 (carrier .returning (.loop 5))).choose (order .queued) [3, 5] =
      some 5 := by decide

/-- The test track in RUN with one order QUEUED, and carrier 5 RETURNING in section 5 or IDLE at the depot's dock. -/
def dispatching (p : Place) : State :=
  let s := { (inMode track .run) with
    book := ⟨[{ (order .queued) with carrier := none, stops := [] }], 2⟩, disp := ⟨[5], true⟩ }
  (withCar s 5 (carrier (if p = .loop 5 then .returning else .idle) p)).setStn 2
    { (track.stn 2) with dock := if p = .docked 2 then .docked 5 else .empty }

/-- An order that is assigned to a loop candidate and to a depot head; a closed station; no candidate; no calls left; and the launch that
is requested with none pending, the same, another, and a claim made already. -/
theorem witness_DispatcherOrders_pass :
    let o : Order := { (order .queued) with carrier := none, stops := [] }
    let s := dispatching (.loop 5)
    let head := dispatching (.docked 2)
    let pending : CarrierId → State := fun c => head.setStn 2 { (head.stn 2) with launchPending := some c }
    s.disp.candidates = [5] ∧ s.choose o s.disp.candidates = some 5 ∧ s.stopsFrom (s.car 5).place o = [0] ∧
      head.stopsFrom (head.car 5).place o = [0] ∧ (s.stn 0).closed = false ∧ (s.stn 0).calls < (s.stn 0).capacity ∧
      ((s.setStn 0 { (s.stn 0) with calls := 1 }).stn 0).capacity ≤ ((s.setStn 0 { (s.stn 0) with calls := 1 }).stn 0).calls ∧
      ((s.setStn 0 { (s.stn 0) with closed := true }).stn 0).closed = true ∧ track.disp.candidates = [] ∧
      (s.car 5).place = .loop 5 ∧ (head.car 5).place = .docked 2 ∧ (s.tryAssign o).isSome = true ∧ track.tryAssign o = none ∧
      (head.stn 2).dock = .docked 5 ∧ (s.stn 2).dock ≠ .docked 5 ∧ (head.stn 2).launchPending = none ∧
      ((pending 5).stn 2).launchPending = some 5 ∧ ((pending 4).stn 2).launchPending = some 4 ∧ (head.sec 5).mergeClaim = none ∧
      ((head.setSec 5 { (head.sec 5) with mergeClaim := some 2 }).sec 5).mergeClaim = some 2 := by decide

/-- The pass assigns the order to the depot head: CALLED for station 1 with its order, one call there, and its launch granted at once
(R150, R89, R90). -/
theorem test_pass_assigns :
    let t := (dispatching (.docked 2)).dispatch
    (t.book.orders.map fun o => (o.state, o.carrier, o.stops), (t.car 5).state, (t.car 5).dest, (t.stn 0).calls, (t.stn 2).dock,
        (t.sec 5).st) =
      ([(.assigned, some 5, [0])], .called, some 0, 1, .launching 5, .reserved 5 .merge) := by decide

/-- No survey; a clearing that ends with no carrier to return, and one that goes on; an opportunity in RUN and none; and a quiet track
and one with an order. -/
theorem witness_WhatFollowsAnEventKeeps :
    let ended := surveying { SurveyRec.fresh with phase := .clearing, clearing := Vector.replicate 12 .cleared }
    let quiet := { (inMode track .run) with
      map := { testMap with params := { testMap.params with autopark := 5 } } }.surveyProgress.dispatch
    let busy := (dispatching (.loop 5)).surveyProgress.dispatch
    track.track.survey = none ∧ ended.track.survey.isSome = true ∧ ended.track.completion = .survey 6#8 ∧
      (∀ i, tget (Vector.replicate 12 Clearing.cleared) i = .cleared) ∧ SurveyRec.fresh.phase ≠ .returning ∧
      (dispatching (.loop 5)).disp.opportunity = true ∧ (dispatching (.loop 5)).track.mode = .run ∧ track.disp.opportunity = false ∧
      (quiet.track.mode = .run ∧ 0 < quiet.map.params.autopark ∧ quiet.book.orders = [] ∧
        ∀ c, (quiet.car c).state = .out ∨ (quiet.car c).state = .unknown ∨ (quiet.car c).state = .idle) ∧
      busy.book.orders ≠ [] := by decide

/-- The survey ends at once where no carrier was tracked: HOLD, and COMPLETION DONE with none tracked and 16 UNKNOWN (R172, R174). -/
theorem test_survey_done :
    let ended := surveying { SurveyRec.fresh with phase := .clearing, clearing := Vector.replicate 12 .cleared }
    (ended.finish.track.mode, (ended.finish.link .service).tx.getLast?) =
      (.hold, some ⟨.notice .completion, 6#8, [0x14#8, 0#8, 0#8, 16#8, 0#8]⟩) := by decide

theorem witness_FaultHoldsTheTrack :
    track.trackSound ∧ track.track.firstFault = none ∧
      (track.track.record .driveFail .none none).firstFault = some ⟨.driveFail, .none, none, 0⟩ :=
  ⟨⟨rfl, rfl, rfl, by decide, by decide, by decide, fun _ _ h => by cases h⟩, rfl, rfl⟩

/-- In RUN a TAG_MISMATCH sends FAULT with section 7, carrier 3 and no later fault, then MODE 4, 2 with the fault flag (R164, R155). -/
theorem test_fault_notices :
    (((inMode track .run).raiseFault .tagMismatch (.sectionAt 7) (some 3)).link .service).tx.tail =
      [⟨.notice .fault, 0#8, [2#8, 0#8, 7#8, 3#8, 0#8, 0#8, 0#8]⟩, ⟨.notice .mode, 0#8, [4#8, 2#8, 0#8, 1#8]⟩] := by decide

end Sys2Proof.Tests
end

/-! Taking, judging and answering a request: what a reply leaves alone (R179, R181), and the properties of the state that a
request keeps. -/

namespace Sys2Proof.Machine

/-! ## Taking a request changes its link alone -/

section Take

variable (s : State) (l : Link)

@[simp] theorem State.take_pending : (s.take l).pending = s.pending := rfl
@[simp] theorem State.take_freeCount : (s.take l).freeCount = s.freeCount := rfl
@[simp] theorem State.take_framing : (s.take l).framing = s.framing := rfl
@[simp] theorem State.take_map : (s.take l).map = s.map := rfl
@[simp] theorem State.take_line : (s.take l).line = s.line := rfl
@[simp] theorem State.take_gen : (s.take l).gen = s.gen := rfl
@[simp] theorem State.take_time : (s.take l).time = s.time := rfl
@[simp] theorem State.take_secs : (s.take l).secs = s.secs := rfl
@[simp] theorem State.take_stations : (s.take l).stations = s.stations := rfl
@[simp] theorem State.take_cars : (s.take l).cars = s.cars := rfl
@[simp] theorem State.take_book : (s.take l).book = s.book := rfl
@[simp] theorem State.take_disp : (s.take l).disp = s.disp := rfl
@[simp] theorem State.take_track : (s.take l).track = s.track := rfl
@[simp] theorem State.take_sec (k : SectionId) : (s.take l).sec k = s.sec k := rfl
@[simp] theorem State.take_stn (i : StationId) : (s.take l).stn i = s.stn i := rfl
@[simp] theorem State.take_car (c : CarrierId) : (s.take l).car c = s.car c := rfl
@[simp] theorem State.take_orderOf (t : Nat) : (s.take l).orderOf t = s.orderOf t := rfl

end Take

/-! ## Replies -/

/-- A request refused is replied to with its reason (R181). -/
@[simp] theorem Verdict.run_refuse_take (s : State) (l : Link) (tag : Byte) (b : List Byte) (x : Reason) :
    (Verdict.refuse x).run (s.take l) ⟨l, tag, b⟩ = s.replied l .refused tag x.body := State.answer_take ..

/-- A request found BUSY is replied to with its reason (R181). -/
@[simp] theorem Verdict.run_busy_take (s : State) (l : Link) (tag : Byte) (b : List Byte) (x : Busy) :
    (Verdict.busy x).run (s.take l) ⟨l, tag, b⟩ = s.replied l .busy tag [x.code] := State.answer_take ..

/-- A request accepted leaves what its owning block made. -/
@[simp] theorem Verdict.run_accept (s t : State) (r : Req) : (Verdict.accept t).run s r = t := rfl

/-- A request taken and answered DONE is the reply. -/
@[simp] theorem State.done_take (s : State) (l : Link) (tag : Byte) (b body : List Byte) :
    (s.take l).done ⟨l, tag, b⟩ body = s.replied l .done tag body := State.answer_take ..

/-- A request its link may not make is refused NOT_PERMITTED (R179). -/
theorem State.request_not_permitted {s : State} {k : ReqKind} {l : Link} {tag : Byte} {body : List Byte}
    (judge : Req → State → Verdict) (h : s.offers l k tag body) (hk : k.permitted l = false) :
    s.request k l judge = s.replied l .refused tag [1#8] := by
  have h' : s.waiting l = some ⟨k.code, tag, body, false⟩ := h
  simp only [State.request, h', hk]
  exact State.answer_take ..

/-- A command that takes a request its link may make, and that waits, carries out its judge's verdict (R179). -/
theorem exec_of_request {i : Instr} {s : State} {k : ReqKind} {l : Link} {judge : Req → State → Verdict} {tag : Byte}
    {body : List Byte} (h : s.offers l k tag body) (hk : k.permitted l = true) (hi : exec i s = .next (s.request k l judge)) :
    exec i s = .next ((judge ⟨l, tag, body⟩ (s.take l)).run (s.take l) ⟨l, tag, body⟩) :=
  hi.trans (congrArg Host.Outcome.next (State.request_permitted judge h hk))

/-- A new map and DONE are the reply with the new map. -/
theorem State.setMap_done_take (s : State) (l : Link) (m : StopMap) (tag : Byte) (b : List Byte) :
    ((s.take l).setMap m).done ⟨l, tag, b⟩ [] = { (s.replied l .done tag []) with map := m } := by
  rw [← State.done_take s l tag b []]
  rfl

/-- A body that is empty is no obstacle. -/
@[simp] theorem emptyBody_nil (l : Link) (tag : Byte) (v : Verdict) : emptyBody ⟨l, tag, []⟩ v = v := rfl

/-- A body that must be empty and is not is refused BAD_FORMAT. -/
@[simp] theorem emptyBody_cons (l : Link) (tag b : Byte) (body : List Byte) (v : Verdict) :
    emptyBody ⟨l, tag, b :: body⟩ v = .refuse .badFormat := rfl

/-! ## Properties that verdicts keep -/

/-- A verdict that accepts leaves a state of the property; BUSY and REFUSED touch no block (R181). -/
def Verdict.Keeps (P : State → Prop) : Verdict → Prop
  | .accept t => P t
  | .busy _ | .refuse _ => True

section Keeps

variable {P : State → Prop}

theorem Verdict.keeps_ite {c : Prop} [Decidable c] {v w : Verdict} (hv : c → v.Keeps P) (hw : ¬ c → w.Keeps P) :
    (if c then v else w).Keeps P := by
  split
  · exact hv ‹_›
  · exact hw ‹_›

theorem emptyBody_keeps (r : Req) {v : Verdict} (hv : v.Keeps P) : (emptyBody r v).Keeps P :=
  Verdict.keeps_ite (fun _ => hv) fun _ => trivial

theorem originCheck_keeps (r : Req) (o : Order) {v : Verdict} (hv : v.Keeps P) : (originCheck r o v).Keeps P :=
  Verdict.keeps_ite (fun _ => trivial) fun _ => hv

theorem withOrder_keeps (s : State) (hi lo : Byte) {f : Order → Verdict} (hf : ∀ o, (f o).Keeps P) :
    (withOrder s hi lo f).Keeps P := by
  unfold withOrder
  split
  · exact hf _
  · trivial

theorem withCarrier_keeps (b : Byte) {f : CarrierId → Verdict} (hf : ∀ c, (f c).Keeps P) : (withCarrier b f).Keeps P := by
  unfold withCarrier
  split
  · exact hf _
  · trivial

theorem stockStation_keeps (s : State) (body : List Byte) {f : StationId → Verdict} (hf : ∀ i, (f i).Keeps P) :
    (stockStation s body f).Keeps P := by
  unfold stockStation
  split
  · split
    · exact Verdict.keeps_ite (fun _ => hf _) fun _ => trivial
    · trivial
  · trivial

theorem ifSound_keeps (s : State) {v : Verdict} (hv : v.Keeps P) : (ifSound s v).Keeps P := by
  unfold ifSound
  split
  · trivial
  · trivial
  · exact Verdict.keeps_ite (fun _ => trivial) fun _ => hv

/-- A property that no change of the link units breaks is kept by a request whose judge keeps it. -/
theorem State.request_keeps (hlinks : ∀ (t : State) x, P t → P { t with links := x }) {s : State} (k : ReqKind) (l : Link)
    {judge : Req → State → Verdict} (h : P s) (hj : ∀ r t, P t → (judge r t).Keeps P) : P (s.request k l judge) := by
  have ht : P (s.take l) := hlinks s _ h
  unfold State.request
  split
  · split
    · dsimp only
      split
      · next w _ _ _ =>
        have hv := hj ⟨l, w.tag, w.body⟩ _ ht
        cases hjr : judge ⟨l, w.tag, w.body⟩ (s.take l) with
        | busy b => exact hlinks _ _ ht
        | refuse x => exact hlinks _ _ ht
        | accept t => simpa [hjr, Verdict.Keeps] using hv
      · exact hlinks _ _ ht
    · exact h
  · exact h

end Keeps

end Sys2Proof.Machine

/-! Which commands write the stop map: MAP_OPEN, MAP_WRITE, MAP_CLOSE and the three resets alone (R1, R2). -/

namespace Sys2Proof

/-- The commands that write the stop map (R2, R12, R14, R17). -/
def Instr.writesMap : Instr → Bool
  | .powerOnReset _ _ | .pinReset _ _ | .reset _ _ _ | .mapOpen _ | .mapWrite _ | .mapClose _ => true
  | _ => false

end Sys2Proof

namespace Sys2Proof.Machine

/-- The stop map, the commands that wait and the straps' framing stand as in the first state. -/
def State.KeepsSetup (s t : State) : Prop := t.map = s.map ∧ t.pending = s.pending ∧ t.framing = s.framing

/-- A state keeps its own. -/
theorem State.KeepsSetup.refl (s : State) : s.KeepsSetup s := ⟨rfl, rfl, rfl⟩

/-- No operation of the track writes the stop map, the commands that wait or the framing. -/
theorem inert_keepsSetup (s₀ : State) : Inert s₀.KeepsSetup where
  secs _ _ h := h
  stations _ _ h := h
  cars _ _ h := h
  disp _ _ h := h
  track _ _ h := h
  gen _ _ h := h
  freeCount _ _ h := h
  latches _ _ h := h
  slots _ _ h := h
  notice _ _ _ _ _ h := h
  removeOrder _ _ h := h
  modOrder _ _ _ _ h := h

section Judges

variable {s₀ : State} (r : Req) {s : State}

/-! ## Requests on orders and stock stations -/

theorem judgePlace_keeps_setup (h : s₀.KeepsSetup s) : (judgePlace r s).Keeps s₀.KeepsSetup := by
  have hI := inert_keepsSetup s₀
  have wake : ∀ t : State, s₀.KeepsSetup t → s₀.KeepsSetup (t.handWake.finish) := fun t ht =>
    hI.finish (Inert.ite (hI.wake ht) ht)
  have order : ∀ o, s₀.KeepsSetup (s.placeOrder r o) := fun o => wake _ (Inert.ite h h)
  unfold judgePlace
  split
  · refine Verdict.keeps_ite (fun _ => trivial) fun _ => ?_
    split
    · trivial
    · refine Verdict.keeps_ite (fun _ => Verdict.keeps_ite (fun _ => ?_) fun _ => trivial) fun _ => trivial
      split
      · trivial
      · unfold judgePlaceOrder
        refine Verdict.keeps_ite (fun _ => trivial) fun _ => ?_
        split
        · trivial
        · exact Verdict.keeps_ite (fun _ => trivial) fun _ => order _
  · trivial

theorem judgeEndorse_keeps_setup (h : s₀.KeepsSetup s) : (judgeEndorse r s).Keeps s₀.KeepsSetup := by
  have hI := inert_keepsSetup s₀
  unfold judgeEndorse
  split
  · refine withOrder_keeps _ _ _ fun o => Verdict.keeps_ite (fun _ => ?_) fun _ => trivial
    exact hI.finish (Inert.ite (hI.wake h) h)
  · trivial

theorem judgeExpedite_keeps_setup (h : s₀.KeepsSetup s) : (judgeExpedite r s).Keeps s₀.KeepsSetup := by
  unfold judgeExpedite
  split
  · exact withOrder_keeps _ _ _ fun o => originCheck_keeps _ _ (Verdict.keeps_ite (fun _ => h) fun _ => trivial)
  · trivial

/-- A launch requested for a carrier at a dock writes no map. -/
theorem launchFrom_keeps_setup (c : CarrierId) (h : s₀.KeepsSetup s) : s₀.KeepsSetup (s.launchFrom c) := by
  unfold State.launchFrom
  split
  · exact (inert_keepsSetup s₀).requestLaunch _ _ h
  · exact h

theorem cancelCarried_keeps_setup (o : Order) (c : CarrierId) (h : s₀.KeepsSetup s) : s₀.KeepsSetup (s.cancelCarried r o c) := by
  have hI := inert_keepsSetup s₀
  have h1 : s₀.KeepsSetup (((s.removeOrder o.ticket).done r []).becomeReturning c) := h
  exact hI.dropFirstCall _ (hI.completeOrder _ _ (Inert.ite (launchFrom_keeps_setup c h1) h1))

theorem judgeCancel_keeps_setup (h : s₀.KeepsSetup s) : (judgeCancel r s).Keeps s₀.KeepsSetup := by
  have hI := inert_keepsSetup s₀
  have waiting : ∀ o, s₀.KeepsSetup ((s.cancelWaiting r o).finish) := fun o => hI.finish h
  unfold judgeCancel
  split
  · refine withOrder_keeps _ _ _ fun o => originCheck_keeps _ _ ?_
    split
    · exact waiting o
    · exact waiting o
    · refine Verdict.keeps_ite (fun _ => trivial) fun _ => ?_
      split
      · exact hI.finish (cancelCarried_keeps_setup _ _ _ h)
      · exact waiting o
    · refine Verdict.keeps_ite (fun _ => trivial) fun _ => ?_
      split
      · exact hI.finish (cancelCarried_keeps_setup _ _ _ h)
      · exact waiting o
    · trivial
    · trivial
  · trivial

theorem deliverOrder_keeps_setup (o : Order) (h : s₀.KeepsSetup s) : s₀.KeepsSetup (s.deliverOrder r o) := by
  unfold State.deliverOrder
  refine (inert_keepsSetup s₀).completeOrder _ _ ?_
  split
  · exact launchFrom_keeps_setup _ h
  · exact h

theorem judgeTaken_keeps_setup (h : s₀.KeepsSetup s) : (judgeTaken r s).Keeps s₀.KeepsSetup := by
  unfold judgeTaken
  split
  · exact withOrder_keeps _ _ _ fun o => originCheck_keeps _ _
      (Verdict.keeps_ite (fun _ => (inert_keepsSetup s₀).finish (deliverOrder_keeps_setup _ _ h)) fun _ => trivial)
  · trivial

theorem stopDone_keeps_setup (o : Order) (c : CarrierId) (i : StationId) (h : s₀.KeepsSetup s) :
    s₀.KeepsSetup (s.stopDone r o c i) := by
  have hI := inert_keepsSetup s₀
  unfold State.stopDone
  split
  · exact hI.dropFirstCall _ (hI.requestLaunch _ _ h)
  · split
    · exact hI.dropFirstCall _ (hI.requestLaunch _ _ h)
    · exact hI.dropFirstCall _ (hI.completeOrder _ _ (hI.requestLaunch _ _ h))

theorem judgeLoaded_keeps_setup (h : s₀.KeepsSetup s) : (judgeLoaded r s).Keeps s₀.KeepsSetup := by
  unfold judgeLoaded
  split
  · split
    · trivial
    · refine withOrder_keeps _ _ _ fun o => ?_
      split
      · exact (inert_keepsSetup s₀).finish (stopDone_keeps_setup _ _ _ _ h)
      · trivial
  · trivial

theorem judgeShort_keeps_setup (h : s₀.KeepsSetup s) : (judgeShort r s).Keeps s₀.KeepsSetup := by
  unfold judgeShort
  split
  · split
    · trivial
    · refine Verdict.keeps_ite (fun _ => trivial) fun _ => withOrder_keeps _ _ _ fun o => ?_
      split
      · exact (inert_keepsSetup s₀).finish (Inert.ite h (stopDone_keeps_setup _ _ _ _ h))
      · trivial
  · trivial

theorem judgeQuery_keeps_setup (h : s₀.KeepsSetup s) : (judgeQuery r s).Keeps s₀.KeepsSetup := by
  unfold judgeQuery
  split
  · exact Verdict.keeps_ite (fun _ => trivial) fun _ => withOrder_keeps _ _ _ fun _ => h
  · trivial

theorem judgeCloseStation_keeps_setup (h : s₀.KeepsSetup s) : (judgeCloseStation r s).Keeps s₀.KeepsSetup :=
  stockStation_keeps _ _ fun _ => h

theorem judgeOpenStation_keeps_setup (h : s₀.KeepsSetup s) : (judgeOpenStation r s).Keeps s₀.KeepsSetup :=
  stockStation_keeps _ _ fun _ => Verdict.keeps_ite (fun _ => (inert_keepsSetup s₀).finish h) fun _ => h

/-! ## Requests on the track -/

theorem judgeSetMode_keeps_setup (h : s₀.KeepsSetup s) : (judgeSetMode r s).Keeps s₀.KeepsSetup := by
  have hI := inert_keepsSetup s₀
  unfold judgeSetMode
  split
  · split
    · exact hI.finish (Inert.ite (hI.changeMode _ h) h)
    · trivial
  · trivial

theorem settle_keeps_setup (h : s₀.KeepsSetup s) : s₀.KeepsSetup (s.settle) := by
  have hI := inert_keepsSetup s₀
  unfold State.settle
  dsimp only
  split
  · exact hI.changeMode _ h
  · exact hI.changeMode _ h
  · exact hI.changeMode _ h
  · exact hI.abortSurvey (hI.completeResume _ (hI.changeMode _ h))
  · exact hI.changeMode _ (hI.abortSurvey h)
  · exact h

theorem judgeSettle_keeps_setup (h : s₀.KeepsSetup s) : (judgeSettle r s).Keeps s₀.KeepsSetup :=
  emptyBody_keeps r ((inert_keepsSetup s₀).finish (settle_keeps_setup h))

theorem judgeResume_keeps_setup (h : s₀.KeepsSetup s) : (judgeResume r s).Keeps s₀.KeepsSetup := by
  have hI := inert_keepsSetup s₀
  refine emptyBody_keeps r (ifSound_keeps s ?_)
  split
  · trivial
  · trivial
  · exact hI.finish (hI.changeMode _ h)
  · exact h
  · exact h
  · exact hI.finish (hI.enterWarmup h)

theorem judgeRecover_keeps_setup (h : s₀.KeepsSetup s) : (judgeRecover r s).Keeps s₀.KeepsSetup := emptyBody_keeps r h

theorem judgeSurvey_keeps_setup (h : s₀.KeepsSetup s) : (judgeSurvey r s).Keeps s₀.KeepsSetup := by
  have hI := inert_keepsSetup s₀
  refine emptyBody_keeps r (ifSound_keeps s ?_)
  split
  · exact hI.finish (hI.acceptSurvey _ h)
  · exact hI.finish (hI.acceptSurvey _ h)
  · trivial
  · trivial
  · trivial
  · trivial

theorem judgeClearCause_keeps_setup (h : s₀.KeepsSetup s) : (judgeClearCause r s).Keeps s₀.KeepsSetup := emptyBody_keeps r h

/-! ## Requests on one carrier or one drive -/

theorem admitToSpur_keeps_setup (c : CarrierId) (i : StationId) (h : s₀.KeepsSetup s) : s₀.KeepsSetup (s.admitToSpur c i) := by
  have hI := inert_keepsSetup s₀
  have hq := hI.enqueue i c id h
  exact Inert.ite (Inert.ite (hI.dockCarrier _ _ _ hq) (hI.tryMoveUp _ hq)) hq

theorem judgeAdmit_keeps_setup (h : s₀.KeepsSetup s) : (judgeAdmit r s).Keeps s₀.KeepsSetup := by
  unfold judgeAdmit
  split
  · split
    · unfold judgeAdmitTo
      split
      · trivial
      · trivial
      · exact Verdict.keeps_ite (fun _ => trivial) fun _ => Verdict.keeps_ite (fun _ => trivial) fun _ =>
          Verdict.keeps_ite (fun _ => trivial) fun _ => Verdict.keeps_ite
            (fun _ => (inert_keepsSetup s₀).finish (admitToSpur_keeps_setup _ _ h)) fun _ => trivial
    · trivial
  · trivial

theorem retire_keeps_setup (c : CarrierId) (h : s₀.KeepsSetup s) : s₀.KeepsSetup (s.retire c) := by
  have hI := inert_keepsSetup s₀
  unfold State.retire
  dsimp only
  split
  · exact h
  · exact hI.becomeOut _ h
  · exact h
  · split
    · exact Inert.ite h h
    · exact h
  all_goals exact h

theorem judgeRetire_keeps_setup (h : s₀.KeepsSetup s) : (judgeRetire r s).Keeps s₀.KeepsSetup := by
  unfold judgeRetire
  split
  · exact withCarrier_keeps _ fun c => Verdict.keeps_ite (fun _ => trivial) fun _ => Verdict.keeps_ite (fun _ => trivial)
      fun _ => (inert_keepsSetup s₀).finish (retire_keeps_setup c h)
  · trivial

theorem clearCarrier_keeps_setup (c : CarrierId) (h : s₀.KeepsSetup s) : s₀.KeepsSetup (s.clearCarrier c) := by
  have hI := inert_keepsSetup s₀
  have h1 : ∀ t : State, s₀.KeepsSetup t → s₀.KeepsSetup (t.modCar c fun r => { r with misreads := 0, suspect := false }) :=
    fun _ ht => ht
  have h2 := h1 _ (Inert.ite (c := (s.car c).stalled = true) (hI.clearStall c StallKinds.none
    (hI.modCar c (fun r => r.restart s.map) h)) h)
  exact Inert.ite (hI.applySpurOf _ (hI.applyDriveOf _ h2)) h2

theorem judgeClearCarrier_keeps_setup (h : s₀.KeepsSetup s) : (judgeClearCarrier r s).Keeps s₀.KeepsSetup := by
  unfold judgeClearCarrier
  split
  · exact withCarrier_keeps _ fun c => Verdict.keeps_ite (fun _ => trivial)
      fun _ => (inert_keepsSetup s₀).finish (clearCarrier_keeps_setup c h)
  · trivial

theorem judgeJog_keeps_setup (h : s₀.KeepsSetup s) : (judgeJog r s).Keeps s₀.KeepsSetup := by
  unfold judgeJog
  split
  · refine Verdict.keeps_ite (fun _ => trivial) fun _ => ?_
    split
    · trivial
    · trivial
    · unfold judgeJogTarget
      split
      · trivial
      · exact Verdict.keeps_ite (fun _ => trivial) fun _ => Verdict.keeps_ite (fun _ => trivial) fun _ =>
          Verdict.keeps_ite (fun _ => trivial) fun _ => Verdict.keeps_ite (fun _ => h) fun _ => trivial
  · trivial

/-! ## Requests that read -/

theorem judgeMapRead_keeps_setup (h : s₀.KeepsSetup s) : (judgeMapRead r s).Keeps s₀.KeepsSetup := by
  unfold judgeMapRead
  split
  · refine Verdict.keeps_ite (fun _ => Verdict.keeps_ite (fun _ => h) fun _ => trivial) fun _ => ?_
    split
    · exact h
    · trivial
  · trivial

theorem judgeReadTrack_keeps_setup (h : s₀.KeepsSetup s) : (judgeReadTrack r s).Keeps s₀.KeepsSetup := emptyBody_keeps r h

theorem judgeReadSection_keeps_setup (h : s₀.KeepsSetup s) : (judgeReadSection r s).Keeps s₀.KeepsSetup := by
  unfold judgeReadSection
  split
  · split
    · exact Inert.ite (P := s₀.KeepsSetup) h h
    · trivial
  · trivial

theorem judgeReadStation_keeps_setup (h : s₀.KeepsSetup s) : (judgeReadStation r s).Keeps s₀.KeepsSetup := by
  unfold judgeReadStation
  split
  · split
    · exact h
    · trivial
  · trivial

theorem judgeReadCarrier_keeps_setup (h : s₀.KeepsSetup s) : (judgeReadCarrier r s).Keeps s₀.KeepsSetup := by
  unfold judgeReadCarrier
  split
  · split
    · exact h
    · trivial
  · trivial

theorem judgeReadLines_keeps_setup (h : s₀.KeepsSetup s) : (judgeReadLines r s).Keeps s₀.KeepsSetup := emptyBody_keeps r h

theorem judgeReadLink_keeps_setup (h : s₀.KeepsSetup s) : (judgeReadLink r s).Keeps s₀.KeepsSetup := by
  unfold judgeReadLink
  split
  · exact h
  · split
    · trivial
    · exact Verdict.keeps_ite (fun _ => h) fun _ => trivial
  · trivial

end Judges

/-! ## Events -/

section Events

variable {s₀ s : State}

theorem acceptLevel_keeps_setup (x : Sensor) (h : s₀.KeepsSetup s) : s₀.KeepsSetup (s.acceptLevel x) :=
  Inert.ite ((inert_keepsSetup s₀).lead x h) ((inert_keepsSetup s₀).deliverTrail x h)

theorem offerReport_keeps_setup (r : ReaderId) (read : Option CarrierId) (h : s₀.KeepsSetup s) :
    s₀.KeepsSetup (s.offerReport r read) := by
  unfold State.offerReport
  split
  · exact (inert_keepsSetup s₀).deliverRead _ _ h
  · exact h
  · exact h

theorem takeReport_keeps_setup (reader id : Byte) (h : s₀.KeepsSetup s) : s₀.KeepsSetup (s.takeReport reader id) := by
  unfold State.takeReport
  dsimp only
  split
  · split
    · split
      · exact offerReport_keeps_setup _ _ h
      · exact Inert.ite (offerReport_keeps_setup _ _ h) (offerReport_keeps_setup _ _ h)
    · exact h
  · exact h

theorem tagChars_keeps_setup (chars : List Byte) (h : s₀.KeepsSetup s) : s₀.KeepsSetup (s.tagChars chars) := by
  refine Inert.fold _ (fun s b h => ?_) _ h
  unfold State.tagChar
  split
  · exact h
  · split
    · exact h
    · exact takeReport_keeps_setup _ _ h

theorem discardHalf_keeps_setup (h : s₀.KeepsSetup s) : s₀.KeepsSetup s.discardHalf := by
  unfold State.discardHalf
  split <;> exact h

theorem windowExpiry_keeps_setup (r : ReaderId) (h : s₀.KeepsSetup s) {t : State} (e : execReadWindowExpiry r s = .next t) :
    s₀.KeepsSetup t := by
  cases e
  split
  · exact (inert_keepsSetup s₀).deliverRead _ _ h
  · exact h
  · exact h

theorem unknownKind_keeps_setup (l : Link) (h : s₀.KeepsSetup s) {t : State} (e : execUnknownKind l s = .next t) :
    s₀.KeepsSetup t := by
  cases e
  split
  · exact Inert.ite (P := s₀.KeepsSetup) h h
  · exact h

theorem sweepEnd_keeps_setup (h : s₀.KeepsSetup s) {t : State} (e : execSweepEnd s = .next t) : s₀.KeepsSetup t := by
  have hI := inert_keepsSetup s₀
  cases e
  split
  · exact Inert.ite (hI.finish (hI.endSweep _ h)) h
  · exact h

theorem spurCleared_keeps_setup (i : StationId) (h : s₀.KeepsSetup s) {t : State} (e : execSpurCleared i s = .next t) :
    s₀.KeepsSetup t := by
  have hI := inert_keepsSetup s₀
  cases e
  split
  · exact Inert.ite (hI.finish (hI.applySpur _ (hI.setClearing _ _ h))) h
  · exact h

end Events

/-! ## Every command -/

/-- A request keeps the setup where its judge does. -/
theorem request_keeps_setup {s t : State} {k : ReqKind} {l : Link} {judge : Req → State → Verdict}
    (hj : ∀ (r : Req) {u : State}, s.KeepsSetup u → (judge r u).Keeps s.KeepsSetup)
    (e : Host.Outcome.next (s.request k l judge) = (.next t : Host.Outcome State Fault Refusal)) : s.KeepsSetup t := by
  cases e
  exact State.request_keeps (P := s.KeepsSetup) (fun _ _ h => h) k l (.refl s) fun r _ h => hj r h

/-- Every other command leaves the stop map, the commands that wait and the framing. -/
theorem exec_keeps_setup {i : Instr} {s t : State} (hi : i.writesMap = false) (e : exec i s = .next t) : s.KeepsSetup t := by
  have hI := inert_keepsSetup s
  have h := State.KeepsSetup.refl s
  cases i with
  | powerOnReset | pinReset | reset | mapOpen | mapWrite | mapClose => cases hi
  | messageReceived | lengthAbove20 | messageGap | characterError | linkBreak | transmitComplete
  | linkLineReturnsToMark | millisecondEvent | tagPortReturnsToMark => cases e; exact ⟨rfl, rfl, rfl⟩
  | unknownKind l => exact unknownKind_keeps_setup l h e
  | place => exact request_keeps_setup judgePlace_keeps_setup e
  | cancel => exact request_keeps_setup judgeCancel_keeps_setup e
  | expedite => exact request_keeps_setup judgeExpedite_keeps_setup e
  | taken => exact request_keeps_setup judgeTaken_keeps_setup e
  | query => exact request_keeps_setup judgeQuery_keeps_setup e
  | loaded => exact request_keeps_setup judgeLoaded_keeps_setup e
  | short => exact request_keeps_setup judgeShort_keeps_setup e
  | endorse => exact request_keeps_setup judgeEndorse_keeps_setup e
  | closeStation => exact request_keeps_setup judgeCloseStation_keeps_setup e
  | openStation => exact request_keeps_setup judgeOpenStation_keeps_setup e
  | setMode => exact request_keeps_setup judgeSetMode_keeps_setup e
  | settle => exact request_keeps_setup judgeSettle_keeps_setup e
  | resume => exact request_keeps_setup judgeResume_keeps_setup e
  | recover => exact request_keeps_setup judgeRecover_keeps_setup e
  | survey => exact request_keeps_setup judgeSurvey_keeps_setup e
  | clearCause => exact request_keeps_setup judgeClearCause_keeps_setup e
  | admitCarrier => exact request_keeps_setup judgeAdmit_keeps_setup e
  | retire => exact request_keeps_setup judgeRetire_keeps_setup e
  | clearCarrier => exact request_keeps_setup judgeClearCarrier_keeps_setup e
  | jog => exact request_keeps_setup judgeJog_keeps_setup e
  | mapRead => exact request_keeps_setup judgeMapRead_keeps_setup e
  | readTrack => exact request_keeps_setup judgeReadTrack_keeps_setup e
  | readSection => exact request_keeps_setup judgeReadSection_keeps_setup e
  | readStation => exact request_keeps_setup judgeReadStation_keeps_setup e
  | readCarrier => exact request_keeps_setup judgeReadCarrier_keeps_setup e
  | readLines => exact request_keeps_setup judgeReadLines_keeps_setup e
  | readLink => exact request_keeps_setup judgeReadLink_keeps_setup e
  | sensorLevelAccepted x => cases e; exact Inert.ite (acceptLevel_keeps_setup x h) h
  | tagReport chars => cases e; exact tagChars_keeps_setup chars h
  | tagReportTimeout chars | tagCharacterError chars => cases e; exact discardHalf_keeps_setup (tagChars_keeps_setup chars h)
  | tagPortBreak chars => cases e; exact discardHalf_keeps_setup (tagChars_keeps_setup chars h)
  | readWindowExpiry r => exact windowExpiry_keeps_setup r h e
  | stepEvent => cases e; exact Inert.ite (hI.finish (hI.stepPulse h)) h
  | jogComplete => cases e; exact Inert.ite (hI.setGen (hI.endJog h)) h
  | secondEvent => cases e; exact Inert.ite (P := s.KeepsSetup) h h
  | autoparkExpiry => cases e; exact Inert.ite (hI.finish (hI.changeMode _ h)) h
  | warmupEnd => cases e; exact Inert.ite (hI.finish (hI.endWarmup h)) h
  | warmupDriveFail => cases e; exact Inert.ite (hI.finish (hI.raiseFault _ _ _ h)) h
  | sweepEnd => exact sweepEnd_keeps_setup h e
  | spurCleared j => exact spurCleared_keeps_setup j h e

end Sys2Proof.Machine

/-! The items of the stop map: what a field's code and a number stand for, what MAP_WRITE's fields can parse to (R14), and what a
write puts where (R1). -/

namespace Sys2Proof.Machine

/-! ## Numbers and codes in bytes -/

@[simp] theorem byte1_toNat (b : Byte) : byte1 b.toNat = b := by simp [byte1]

/-- A number read from two bytes is written as them (R186). -/
@[simp] theorem byte2_word2 (hi lo : Byte) : byte2 (word2 hi lo) = [hi, lo] := by
  have h : (hi.toNat * 256 + lo.toNat) / 256 = hi.toNat := by omega
  have l : BitVec.ofNat 8 (hi.toNat * 256 + lo.toNat) = lo := by
    apply BitVec.eq_of_toNat_eq
    simp only [BitVec.toNat_ofNat]
    omega
  simp only [byte2, word2, h, byte1_toNat, List.cons.injEq, and_true, true_and]
  exact l

theorem polarityOf_eq_some {n : Nat} {p : Polarity} : polarityOf n = some p ↔ n = p.code := by
  unfold polarityOf
  split <;> cases p <;> simp_all [Polarity.code]

theorem kindOfCode_eq_some {n : Nat} {k : Kind} : kindOfCode n = some k ↔ n = kindCode (some k) := by
  unfold kindOfCode
  split <;> cases k <;> simp_all [kindCode]

theorem stationOf_eq_some {n : Nat} {i : StationId} : stationOf n = some i ↔ n = stationNum i := by
  unfold stationOf stationNum
  split
  · rw [Option.some.injEq, Fin.ext_iff]
    dsimp only
    omega
  · have := i.isLt
    simp only [reduceCtorEq, false_iff]
    omega

theorem stationOf_eq_none {n : Nat} : stationOf n = none ↔ n = 0 ∨ 13 ≤ n := by
  unfold stationOf
  split
  · simp only [reduceCtorEq, false_iff]
    omega
  · simp only [true_iff]
    omega

theorem sectionOf_eq_some {n : Nat} {k : SectionId} : sectionOf n = some k ↔ n = k.val := by
  unfold sectionOf
  split
  · rw [Option.some.injEq, Fin.ext_iff]
  · simp only [reduceCtorEq, false_iff]
    omega

theorem sectionOf_eq_none {n : Nat} : sectionOf n = none ↔ 32 ≤ n := by
  unfold sectionOf
  split <;> simp <;> omega

theorem carrierOf_eq_some {n : Nat} {c : CarrierId} : carrierOf n = some c ↔ n = c.val := by
  unfold carrierOf
  split
  · rw [Option.some.injEq, Fin.ext_iff]
  · simp only [reduceCtorEq, false_iff]
    omega

theorem carrierOf_eq_none {n : Nat} : carrierOf n = none ↔ 16 ≤ n := by
  unfold carrierOf
  split <;> simp <;> omega

/-! ## Fields within their ranges -/

theorem parseLoop_eq_some {count limit : Nat} {x : LoopItem} :
    parseLoop count limit = some x ↔ (8 ≤ count ∧ count ≤ 32 ∧ limit ≤ count - 2) ∧ x = ⟨count, limit⟩ := by
  simp [parseLoop, eq_comm]

theorem parseSection_eq_some {len pol : Nat} {x : SectionItem} :
    parseSection len pol = some x ↔ (32 ≤ len ∧ len ≤ 4095) ∧ x.len = len ∧ pol = x.pol.code := by
  unfold parseSection
  split
  · next h =>
    simp only [Option.map_eq_some_iff, polarityOf_eq_some, h, true_and, and_self]
    constructor
    · rintro ⟨p, hp, rfl⟩
      exact ⟨rfl, hp⟩
    · rintro ⟨rfl, hp⟩
      exact ⟨x.pol, hp, rfl⟩
  · next h => simp [h]

theorem parseStation_eq_some {kd : Kind} {j cap exit approach pe pd : Nat} {x : StationItem} :
    parseStation kd j cap exit approach pe pd = some x ↔
      (1 ≤ cap ∧ cap ≤ kd.maxCapacity ∧ 16 ≤ exit ∧ exit ≤ 1023 ∧ 16 ≤ approach ∧ approach ≤ 1023) ∧
        x.kind = kd ∧ j = x.junction.val ∧ x.capacity = cap ∧ x.exitLen = exit ∧ x.approach = approach ∧
        pe = x.polEntry.code ∧ pd = x.polDock.code := by
  rw [← sectionOf_eq_some, ← polarityOf_eq_some, ← polarityOf_eq_some]
  unfold parseStation
  constructor
  · intro h
    split at h
    · split at h
      · cases h
        exact ⟨‹_›, rfl, ‹_›, rfl, rfl, rfl, ‹_›, ‹_›⟩
      · cases h
    · cases h
  · rintro ⟨h, rfl, hj, rfl, rfl, rfl, he, hd⟩
    simp only [hj, he, hd]
    exact if_pos h

theorem parseBin_eq_some {first last : Nat} {i : StationId} {flag : Nat} {x : BinRange} :
    parseBin first last i flag = some x ↔ (first ≤ last ∧ last ≤ 4095 ∧ flag ≤ 1) ∧ x = ⟨first, last, i, flag == 1⟩ := by
  simp [parseBin, eq_comm]

/-! ## What MAP_WRITE's fields parse to -/

/-- The item a value is of. -/
def ItemVal.ref : ItemVal → ItemRef
  | .loop _ => .loop
  | .sectionAt k _ => .sectionAt k
  | .station i _ => .station i
  | .window w _ => .window w
  | .bin e _ => .bin e
  | .number p _ => .param p
  | .runRate _ => .param 4
  | .slowRate _ => .param 5

/-- What the fields of an item and its value have to do with each other, item by item (R3 to R8, R14). -/
inductive Parsed : ItemRef → List Byte → ItemVal → Prop where
  | loop (c a : Byte) : Parsed .loop [c, a] (.loop ⟨c.toNat, a.toNat⟩)
  | sectionAt (k : SectionId) (h l p : Byte) (x : SectionItem) (hlen : x.len = word2 h l) (hp : p.toNat = x.pol.code) :
      Parsed (.sectionAt k) [h, l, p] (.sectionAt k x)
  | noStation (i : StationId) (k j c xh xl yh yl pe pd : Byte) :
      Parsed (.station i) [k, j, c, xh, xl, yh, yl, pe, pd] (.station i none)
  | station (i : StationId) (k j c xh xl yh yl pe pd : Byte) (x : StationItem) (hk : k.toNat = kindCode (some x.kind))
      (hj : j.toNat = x.junction.val) (hc : x.capacity = c.toNat) (hx : x.exitLen = word2 xh xl) (hy : x.approach = word2 yh yl)
      (hpe : pe.toNat = x.polEntry.code) (hpd : pd.toNat = x.polDock.code) :
      Parsed (.station i) [k, j, c, xh, xl, yh, yl, pe, pd] (.station i (some x))
  | noWindow (w : Fin 16) : Parsed (.window w) [0#8] (.window w none)
  | window (w : Fin 16) (x : Byte) (i : StationId) (hi : x.toNat = stationNum i) : Parsed (.window w) [x] (.window w (some i))
  | noBin (e : Fin 8) (fh fl lh ll x r : Byte) : Parsed (.bin e) [fh, fl, lh, ll, x, r] (.bin e none)
  | bin (e : Fin 8) (fh fl lh ll x r : Byte) (i : StationId) (hi : x.toNat = stationNum i) (hr : r.toNat ≤ 1) :
      Parsed (.bin e) [fh, fl, lh, ll, x, r] (.bin e (some ⟨word2 fh fl, word2 lh ll, i, r.toNat == 1⟩))
  | number (p : Fin 12) (x : Byte) (hp : p.val ≠ 4 ∧ p.val ≠ 5) : Parsed (.param p) [x] (.number p x.toNat)
  | runRate (c d : Byte) : Parsed (.param 4) [c, d] (.runRate ⟨c.toNat, d.toNat⟩)
  | slowRate (c d : Byte) : Parsed (.param 5) [c, d] (.slowRate ⟨c.toNat, d.toNat⟩)

/-- What MAP_WRITE's fields parse to. -/
theorem parseItem_parsed {x : ItemRef} {fields : List Byte} {v : ItemVal} (h : parseItem x fields = some v) :
    Parsed x fields v := by
  unfold parseItem at h
  split at h
  case h_1 =>
    obtain ⟨y, hy, rfl⟩ := Option.map_eq_some_iff.mp h
    obtain ⟨-, rfl⟩ := parseLoop_eq_some.mp hy
    exact .loop ..
  case h_2 =>
    obtain ⟨y, hy, rfl⟩ := Option.map_eq_some_iff.mp h
    obtain ⟨-, hlen, hp⟩ := parseSection_eq_some.mp hy
    exact .sectionAt _ _ _ _ _ hlen hp
  case h_3 =>
    split at h
    · cases h
      exact .noStation ..
    · split at h
      · next hk =>
        obtain ⟨y, hy, rfl⟩ := Option.map_eq_some_iff.mp h
        obtain ⟨-, rfl, hj, hc, hx, hy, hpe, hpd⟩ := parseStation_eq_some.mp hy
        exact .station _ _ _ _ _ _ _ _ _ _ _ (kindOfCode_eq_some.mp hk) hj hc hx hy hpe hpd
      · cases h
  case h_4 w b =>
    split at h
    · next h0 =>
      cases h
      obtain rfl : b = 0#8 := BitVec.eq_of_toNat_eq h0
      exact .noWindow w
    · obtain ⟨i, hi, rfl⟩ := Option.map_eq_some_iff.mp h
      exact .window _ _ _ (stationOf_eq_some.mp hi)
  case h_5 =>
    split at h
    · cases h
      exact .noBin ..
    · split at h
      · next hi =>
        obtain ⟨y, hy, rfl⟩ := Option.map_eq_some_iff.mp h
        obtain ⟨⟨-, -, hr⟩, rfl⟩ := parseBin_eq_some.mp hy
        exact .bin _ _ _ _ _ _ _ _ (stationOf_eq_some.mp hi) hr
      · cases h
  case h_6 =>
    split at h
    · cases h
    · next hp =>
      split at h
      · cases h
        exact .number _ _ (not_or.mp hp)
      · cases h
  case h_7 p c d =>
    split at h
    · split at h
      · next hp =>
        cases h
        obtain rfl : p = 4 := Fin.ext hp
        exact .runRate ..
      · split at h
        · next hp =>
          cases h
          obtain rfl : p = 5 := Fin.ext hp
          exact .slowRate ..
        · cases h
    · cases h
  case h_8 => cases h

/-- A parsed value is of the item it was parsed for. -/
theorem Parsed.ref_eq {x : ItemRef} {fields : List Byte} {v : ItemVal} (h : Parsed x fields v) : v.ref = x := by
  cases h <;> rfl

/-! ## Parameters -/

/-- The twelve parameters, by their index (R8). -/
theorem param_cases : ∀ p : Fin 12, p = 0 ∨ p = 1 ∨ p = 2 ∨ p = 3 ∨ p = 4 ∨ p = 5 ∨ p = 6 ∨ p = 7 ∨ p = 8 ∨ p = 9 ∨ p = 10 ∨
    p = 11 := by decide

/-- A parameter other than 5 and 6 reads as it was written (R8). -/
theorem Params.number_setNumber (q : Params) (p : Fin 12) (x : Nat) (hp : p.val ≠ 4 ∧ p.val ≠ 5) :
    (q.setNumber p x).number p = x := by
  rcases param_cases p with rfl | rfl | rfl | rfl | rfl | rfl | rfl | rfl | rfl | rfl | rfl | rfl
  case inr.inr.inr.inr.inl => exact absurd rfl hp.1
  case inr.inr.inr.inr.inr.inl => exact absurd rfl hp.2
  all_goals rfl

@[simp] theorem Params.setNumber_runRate (q : Params) (p : Fin 12) (x : Nat) : (q.setNumber p x).runRate = q.runRate := by
  unfold Params.setNumber
  split <;> rfl

@[simp] theorem Params.setNumber_slowRate (q : Params) (p : Fin 12) (x : Nat) : (q.setNumber p x).slowRate = q.slowRate := by
  unfold Params.setNumber
  split <;> rfl

/-- The carrier length is parameter 3, of index 2. -/
theorem Params.setNumber_carrierLen (q : Params) (p : Fin 12) (x : Nat) (hp : p.val ≠ 2) :
    (q.setNumber p x).carrierLen = q.carrierLen := by
  unfold Params.setNumber
  split <;> simp_all

/-- The guard is parameter 4, of index 3. -/
theorem Params.setNumber_guard (q : Params) (p : Fin 12) (x : Nat) (hp : p.val ≠ 3) :
    (q.setNumber p x).guard = q.guard := by
  unfold Params.setNumber
  split <;> simp_all

end Sys2Proof.Machine

/-! The fields of an item read back (R14, R15), and the bin lookup (R19). -/

namespace Sys2Proof.Machine

/-- A restricted flag within its range is the byte of whether it is 1 (R7). -/
theorem flagByte_of_le_one {b : Byte} (h : b.toNat ≤ 1) : flagByte (b.toNat == 1) = b := by
  apply BitVec.eq_of_toNat_eq
  obtain h0 | h1 : b.toNat = 0 ∨ b.toNat = 1 := by omega
  · simp [h0, flagByte]
  · simp [h1, flagByte]

/-- A byte is the byte of the number it stands for. -/
theorem byte1_of_toNat_eq {b : Byte} {n : Nat} (h : b.toNat = n) : byte1 n = b := h ▸ byte1_toNat b

/-- Two bytes are the bytes of the numbers they stand for. -/
theorem byte1_pair (c d : Byte) : [byte1 c.toNat, byte1 d.toNat] = [c, d] := by rw [byte1_toNat, byte1_toNat]

/-- Settles O12, by what each item's fields parse to. -/
theorem itemsReadBack : Obligations.ItemsReadBack := by
  intro m x fields v h
  cases parseItem_parsed h with
  | loop c a => simp [StopMap.write, StopMap.fields]
  | sectionAt k h l p y hlen hp => simp [StopMap.write, StopMap.fields, hlen, byte1_of_toNat_eq hp]
  | noStation i => simp [StopMap.write, StopMap.fields]
  | station i k j c xh xl yh yl pe pd y hk hj hc hx hy hpe hpd =>
    simp [StopMap.write, StopMap.fields, hc, hx, hy, byte1_of_toNat_eq hk, byte1_of_toNat_eq hj, byte1_of_toNat_eq hpe,
      byte1_of_toNat_eq hpd]
  | noWindow w => simp [StopMap.write, StopMap.fields, stationByte]
  | window w b i hi => simp [StopMap.write, StopMap.fields, stationByte, byte1_of_toNat_eq hi]
  | noBin e => simp [StopMap.write, StopMap.fields]
  | bin e fh fl lh ll b r i hi hr => simp [StopMap.write, StopMap.fields, byte1_of_toNat_eq hi, flagByte_of_le_one hr]
  | number p b hp => simp [StopMap.write, StopMap.fields, hp, Params.number_setNumber]
  | runRate c d => exact byte1_pair c d
  | slowRate c d => exact byte1_pair c d

/-! ## The bin lookup -/

/-- A bin range contains a bin (R19). -/
def BinRange.contains (b : BinRange) (bin : Nat) : Bool := decide (b.first ≤ bin ∧ bin ≤ b.last)

/-- The lookup is a search of the eight items, an empty one containing no bin. -/
theorem StopMap.binLookup_eq (m : StopMap) (bin : Nat) :
    m.binLookup bin = (m.bins.toList.find? fun x => x.any (·.contains bin)).bind id := List.find?_filterMap

/-- Settles O25: the lookup is a search of the items in ascending index. -/
theorem binLookupTakesTheFirst : Obligations.BinLookupTakesTheFirst := by
  intro m bin
  have item : ∀ (e : Fin 8), m.bins.toList[e.val]'(by simp) = tget m.bins e := fun e => by simp [tget]
  have misses : ∀ e : Fin 8, (tget m.bins e).any (·.contains bin) = false ↔
      ∀ b, tget m.bins e = some b → ¬ (b.first ≤ bin ∧ bin ≤ b.last) := by
    intro e
    cases tget m.bins e <;> simp [BinRange.contains]
  constructor
  · intro b
    rw [StopMap.binLookup_eq, Option.bind_eq_some_iff]
    constructor
    · rintro ⟨x, hx, rfl⟩
      obtain ⟨hb, n, hn, hget, hbefore⟩ := List.find?_eq_some_iff_getElem.mp hx
      have hn8 : n < 8 := by simpa using hn
      obtain ⟨hfirst, hlast⟩ : b.first ≤ bin ∧ bin ≤ b.last := by simpa [BinRange.contains] using hb
      refine ⟨⟨n, hn8⟩, (item ⟨n, hn8⟩).symm.trans hget, hfirst, hlast, fun e' he' => (misses e').mp ?_⟩
      simpa [item e'] using hbefore e'.val he'
    · rintro ⟨e, he, hfirst, hlast, hbefore⟩
      refine ⟨some b, List.find?_eq_some_iff_getElem.mpr ⟨by simp [BinRange.contains, hfirst, hlast], e.val, by simp,
        (item e).trans he, fun j hj => ?_⟩, rfl⟩
      have hj8 : j < 8 := by omega
      have := (misses ⟨j, hj8⟩).mpr (hbefore ⟨j, hj8⟩ hj)
      rw [← item ⟨j, hj8⟩] at this
      simpa using this
  · have occurs : ∀ b, some b ∈ m.bins ↔ ∃ e : Fin 8, tget m.bins e = some b := fun b =>
      Vector.mem_iff_getElem.trans ⟨fun ⟨n, hn, h⟩ => ⟨⟨n, hn⟩, h⟩, fun ⟨e, h⟩ => ⟨e.val, e.isLt, h⟩⟩
    simp only [StopMap.binLookup, List.find?_eq_none, List.mem_filterMap, id_eq, exists_eq_right, Vector.mem_toList_iff,
      occurs, decide_eq_true_eq, forall_exists_index]
    exact forall_comm

end Sys2Proof.Machine

/-! What the checks of a live item say (R6, R7, R9, R10), and that a write they admit keeps a VALID map's conditions. -/

namespace Sys2Proof.Machine

/-! ## Lengths -/

/-- A section in use, or any section while the LOOP item is unset, is long enough for a guard and a carrier (R10). -/
theorem StopMap.fits_iff (m : StopMap) :
    m.fits = true ↔ ∀ k x, tget m.sections k = some x → (m.loop = none ∨ ∃ y, m.loop = some y ∧ k.val < y.count) →
      m.params.guard + m.params.carrierLen ≤ x.len := by
  simp only [StopMap.fits, allSections, List.all_eq_true, List.mem_finRange, true_imp_iff]
  refine forall_congr' fun k => ?_
  cases tget m.sections k with
  | none => simp
  | some x => cases hl : m.loop <;> simp [StopMap.sectionCount, hl, Decidable.or_iff_not_imp_left]

/-- Every exit is long enough for a carrier (R10). -/
theorem StopMap.exitsFit_iff (m : StopMap) :
    m.exitsFit = true ↔ ∀ i x, tget m.stations i = some x → m.params.carrierLen + 8 ≤ x.exitLen := by
  simp only [StopMap.exitsFit, allStations, List.all_eq_true, List.mem_finRange, true_imp_iff]
  refine forall_congr' fun i => ?_
  cases tget m.stations i <;> simp

/-! ## Live items -/

theorem StopMap.admits_window_iff (m : StopMap) (w : Fin 16) (x : Option StationId) :
    m.admits (.window w x) = true ↔ (m.state = .valid → ∀ i, x = some i → m.kindOf i = some .counter) := by
  cases x <;> simp [StopMap.admits, ← Decidable.imp_iff_not_or]

theorem StopMap.admits_bin_iff (m : StopMap) (e : Fin 8) (x : Option BinRange) :
    m.admits (.bin e x) = true ↔ (m.state = .valid → ∀ b, x = some b → m.kindOf b.station = some .stock) := by
  cases x <;> simp [StopMap.admits, ← Decidable.imp_iff_not_or]

theorem StopMap.admits_runRate_iff (m : StopMap) (x : Rate) :
    m.admits (.runRate x) = true ↔ (m.state = .valid → 1024 ≤ x.divisor ∧ x.divisor ≤ m.params.slowRate.divisor) := by
  simp [StopMap.admits, ← Decidable.imp_iff_not_or]

theorem StopMap.admits_slowRate_iff (m : StopMap) (x : Rate) :
    m.admits (.slowRate x) = true ↔ (m.state = .valid → m.params.runRate.divisor ≤ x.divisor) := by
  simp [StopMap.admits, ← Decidable.imp_iff_not_or]

theorem StopMap.admits_carrierLen_iff (m : StopMap) (n : Nat) :
    m.admits (.number 2 n) = true ↔
      (m.write (.number 2 n)).fits = true ∧ (m.state = .valid → (m.write (.number 2 n)).exitsFit = true) := by
  have checks : m.admits (.number 2 n) =
      ((m.write (.number 2 n)).fits && (!(m.state == .valid) || (m.write (.number 2 n)).exitsFit)) := rfl
  simp [checks, ← Decidable.imp_iff_not_or]

theorem StopMap.admits_guard_iff (m : StopMap) (n : Nat) :
    m.admits (.number 3 n) = true ↔ (m.write (.number 3 n)).fits = true := Iff.rfl

theorem StopMap.admits_number (m : StopMap) {p : Fin 12} (n : Nat) (h2 : p ≠ 2) (h3 : p ≠ 3) :
    m.admits (.number p n) = true := by
  have v2 : p.val ≠ 2 := fun h => h2 (Fin.ext h)
  have v3 : p.val ≠ 3 := fun h => h3 (Fin.ext h)
  simp [StopMap.admits, v2, v3]

@[simp] theorem StopMap.write_state (m : StopMap) (v : ItemVal) : (m.write v).state = m.state := by
  cases v <;> rfl

/-! ## A VALID map's conditions, one by one -/

/-- What a sound map satisfies while it is VALID (R16, checks 1 to 6 and 11 to 14). -/
structure StopMap.Closed (m : StopMap) : Prop where
  loop : m.loop.isSome = true
  sections : ∀ k : SectionId, k.val < m.sectionCount →
    (tget m.sections k).isSome = true ∧ m.params.guard + m.params.carrierLen ≤ m.sectionLen k
  stations : ∀ i x, tget m.stations i = some x → x.junction.val < m.sectionCount ∧ m.params.carrierLen + 8 ≤ x.exitLen ∧
    ∀ j y, tget m.stations j = some y → y.junction = x.junction → j = i
  windows : ∀ w i, tget m.windows w = some i → m.kindOf i = some .counter
  bins : ∀ e b, tget m.bins e = some b → m.kindOf b.station = some .stock
  fastest : 1024 ≤ m.params.runRate.divisor
  rates : m.params.runRate.divisor ≤ m.params.slowRate.divisor

theorem StopMap.sound_iff (m : StopMap) : m.sound ↔ (m.state = .valid → m.Closed) := by
  refine imp_congr_right fun _ => ⟨?_, ?_⟩
  · rintro ⟨loop, sections, stations, windows, bins, fastest, rates⟩
    exact ⟨loop, sections, stations, windows, bins, fastest, rates⟩
  · rintro ⟨loop, sections, stations, windows, bins, fastest, rates⟩
    exact ⟨loop, sections, stations, windows, bins, fastest, rates⟩

/-- A map that is not VALID is sound. -/
theorem StopMap.sound_of_ne {m : StopMap} (h : m.state ≠ .valid) : m.sound := fun v => absurd v h

/-- A number that keeps the lengths keeps a closed map closed. -/
theorem StopMap.Closed.write_number {m : StopMap} (h : m.Closed) (p : Fin 12) (n : Nat)
    (hfits : ∀ k, k.val < m.sectionCount →
      (m.params.setNumber p n).guard + (m.params.setNumber p n).carrierLen ≤ m.sectionLen k)
    (hexits : ∀ i x, tget m.stations i = some x → (m.params.setNumber p n).carrierLen + 8 ≤ x.exitLen) :
    (m.write (.number p n)).Closed where
  loop := h.loop
  sections k hk := ⟨(h.sections k hk).1, hfits k hk⟩
  stations i x hx := ⟨(h.stations i x hx).1, hexits i x hx, (h.stations i x hx).2.2⟩
  windows := h.windows
  bins := h.bins
  fastest := by simpa [StopMap.write] using h.fastest
  rates := by simpa [StopMap.write] using h.rates

/-- Where the map fits, each section in use of a closed map is long enough. -/
theorem StopMap.le_sectionLen_of_fits {m : StopMap} (h : m.fits = true)
    (hs : ∀ k : SectionId, k.val < m.sectionCount → (tget m.sections k).isSome = true) (k : SectionId)
    (hk : k.val < m.sectionCount) : m.params.guard + m.params.carrierLen ≤ m.sectionLen k := by
  obtain ⟨x, hx⟩ := Option.isSome_iff_exists.mp (hs k hk)
  have hlen : m.sectionLen k = x.len := by simp [StopMap.sectionLen, hx]
  rw [hlen]
  refine m.fits_iff.mp h k x hx ?_
  cases hl : m.loop with
  | none => exact .inl rfl
  | some y => exact .inr ⟨y, rfl, by simpa [StopMap.sectionCount, hl] using hk⟩

/-- A live write that the checks admit keeps a closed map closed (R6, R7, R9, R10). -/
theorem StopMap.Closed.write {m : StopMap} (h : m.Closed) (hv : m.state = .valid) {v : ItemVal} (hlive : v.ref.layout = false)
    (ha : m.admits v = true) : (m.write v).Closed := by
  cases v with
  | loop | sectionAt | station => cases hlive
  | window w x =>
    refine ⟨h.loop, h.sections, h.stations, fun w' i hi => ?_, h.bins, h.fastest, h.rates⟩
    by_cases e : w = w'
    · subst e
      exact (m.admits_window_iff w x).mp ha hv i (by simpa [StopMap.write] using hi)
    · exact h.windows w' i (by simpa [StopMap.write, tget_tset_ne _ _ e] using hi)
  | bin e x =>
    refine ⟨h.loop, h.sections, h.stations, h.windows, fun e' b hb => ?_, h.fastest, h.rates⟩
    by_cases he : e = e'
    · subst he
      exact (m.admits_bin_iff e x).mp ha hv b (by simpa [StopMap.write] using hb)
    · exact h.bins e' b (by simpa [StopMap.write, tget_tset_ne _ _ he] using hb)
  | runRate x =>
    obtain ⟨hfast, hle⟩ := (m.admits_runRate_iff x).mp ha hv
    exact ⟨h.loop, h.sections, h.stations, h.windows, h.bins, hfast, hle⟩
  | slowRate x => exact ⟨h.loop, h.sections, h.stations, h.windows, h.bins, h.fastest, (m.admits_slowRate_iff x).mp ha hv⟩
  | number p n =>
    have set : ∀ k : SectionId, k.val < m.sectionCount → (tget m.sections k).isSome = true := fun k hk => (h.sections k hk).1
    by_cases h2 : p = 2
    · subst h2
      obtain ⟨hf, hx⟩ := (m.admits_carrierLen_iff n).mp ha
      exact h.write_number 2 n (StopMap.le_sectionLen_of_fits hf set) ((StopMap.exitsFit_iff _).mp (hx hv))
    · have hC := m.params.setNumber_carrierLen p n fun e => h2 (Fin.ext e)
      have exits : ∀ i x, tget m.stations i = some x → (m.params.setNumber p n).carrierLen + 8 ≤ x.exitLen := by
        intro i x hx
        rw [hC]
        exact (h.stations i x hx).2.1
      by_cases h3 : p = 3
      · subst h3
        exact h.write_number 3 n (StopMap.le_sectionLen_of_fits ((m.admits_guard_iff n).mp ha) set) exits
      · have hG := m.params.setNumber_guard p n fun e => h3 (Fin.ext e)
        refine h.write_number p n (fun k hk => ?_) exits
        rw [hC, hG]
        exact (h.sections k hk).2

end Sys2Proof.Machine

/-! The checks of MAP_CLOSE: which there are, and what each passes on (R16). -/

namespace Sys2Proof.Machine

/-! ## What the checks of a station pass on -/

/-- Check 5: no lower-numbered station has the junction (R16). -/
theorem StopMap.junctionFree_iff (m : StopMap) (i : StationId) (x : StationItem) :
    m.junctionFree i x = true ↔ ∀ j < i, ∀ y, tget m.stations j = some y → y.junction ≠ x.junction := by
  simp only [StopMap.junctionFree, allStations, List.all_eq_true, List.mem_finRange, true_imp_iff, Bool.or_eq_true,
    decide_eq_true_eq]
  refine forall_congr' fun j => ?_
  rw [Decidable.or_iff_not_imp_left, Nat.not_le, Fin.lt_def]
  cases tget m.stations j <;> simp

/-- Check 7: what MAP_OPEN noted of the station still holds (R16). -/
theorem StopMap.noteHolds_iff (m : StopMap) (i : StationId) :
    m.noteHolds i = true ↔ ∀ n, tget m.notes i = some n →
      ∃ x, tget m.stations i = some x ∧ x.kind = .depot ∧ x.junction = n.1 ∧ n.2 ≤ x.capacity := by
  unfold StopMap.noteHolds
  cases tget m.notes i with
  | none => simp
  | some n => cases tget m.stations i <;> simp [and_assoc]

/-- Check 8: the orders that name the station find it of their kind (R16). -/
theorem State.ordersHold_iff (s : State) (i : StationId) :
    s.ordersHold i = true ↔ ∀ o ∈ s.book.orders, (o.counter = i → s.map.kindOf i = some .counter) ∧
      ((∃ x ∈ o.lines, x.station = i) → s.map.kindOf i = some .stock) := by
  simp only [State.ordersHold, List.all_eq_true]
  refine forall₂_congr fun o _ => ?_
  rw [Bool.and_eq_true]
  refine and_congr (by simp [← Decidable.imp_iff_not_or]) ?_
  rw [Bool.or_eq_true, Bool.not_eq_true', ← Bool.not_eq_true, ← Decidable.imp_iff_not_or, List.any_eq_true]
  simp only [beq_iff_eq]

/-- Check 9: the station set has every kind (R16). -/
def StopMap.hasKinds (m : StopMap) : Bool :=
  (allStations.any fun i => m.kindOf i == some .stock) && (allStations.any fun i => m.kindOf i == some .counter) &&
    (allStations.any fun i => m.kindOf i == some .depot)

theorem StopMap.hasKinds_iff (m : StopMap) : m.hasKinds = true ↔ ∀ k : Kind, ∃ i, m.kindOf i = some k := by
  have any : ∀ k : Kind, (allStations.any fun i => m.kindOf i == some k) = true ↔ ∃ i, m.kindOf i = some k := by
    simp [allStations]
  simp only [StopMap.hasKinds, Bool.and_eq_true, any]
  constructor
  · rintro ⟨⟨hs, hc⟩, hd⟩ (_ | _ | _)
    · exact hs
    · exact hc
    · exact hd
  · exact fun h => ⟨⟨h .stock, h .counter⟩, h .depot⟩

/-- The places a station gives as a DEPOT (R16, check 10). -/
def StopMap.depotCapacity (m : StopMap) (i : StationId) : Nat :=
  match tget m.stations i with
  | some x => if x.kind = .depot then x.capacity else 0
  | none => 0

/-- The places of the depots, summed station by station (R16, check 10). -/
theorem StopMap.depotPlaces_eq (m : StopMap) : m.depotPlaces = ((List.finRange 12).map m.depotCapacity).sum := by
  rw [List.sum_eq_foldl, List.foldl_map]
  unfold StopMap.depotPlaces allStations
  congr 1
  funext n i
  unfold StopMap.depotCapacity
  cases tget m.stations i with
  | none => rfl
  | some x => by_cases h : x.kind = .depot <;> simp [h]

/-- Check 11 of window w (R16). -/
def StopMap.windowHolds (m : StopMap) (w : Fin 16) : Bool :=
  match tget m.windows w with
  | some i => m.kindOf i == some .counter
  | none => true

theorem StopMap.windowHolds_iff (m : StopMap) (w : Fin 16) :
    m.windowHolds w = true ↔ ∀ i, tget m.windows w = some i → m.kindOf i = some .counter := by
  unfold StopMap.windowHolds
  cases tget m.windows w <;> simp

/-- Check 12 of bin range e (R16). -/
def StopMap.binHolds (m : StopMap) (e : Fin 8) : Bool :=
  match tget m.bins e with
  | some b => m.kindOf b.station == some .stock
  | none => true

theorem StopMap.binHolds_iff (m : StopMap) (e : Fin 8) :
    m.binHolds e = true ↔ ∀ b, tget m.bins e = some b → m.kindOf b.station = some .stock := by
  unfold StopMap.binHolds
  cases tget m.bins e <;> simp

/-! ## Which checks there are -/

/-- The checks of MAP_CLOSE, with what each passes on (R16). -/
inductive State.IsCheck (s : State) : MapCheck → Prop where
  | loop : s.IsCheck ⟨s.map.loop.isSome, 1, 0, 1⟩
  | sectionSet (k : SectionId) (hk : k.val < s.S) : s.IsCheck ⟨(tget s.map.sections k).isSome, 2, k.val, 2⟩
  | sectionLen (k : SectionId) (hk : k.val < s.S) :
      s.IsCheck ⟨decide (s.map.params.guard + s.map.params.carrierLen ≤ s.map.sectionLen k), 2, k.val, 3⟩
  | junction (i : StationId) (x : StationItem) (hx : tget s.map.stations i = some x) :
      s.IsCheck ⟨decide (x.junction.val < s.S), 3, stationNum i, 4⟩
  | junctionFree (i : StationId) (x : StationItem) (hx : tget s.map.stations i = some x) :
      s.IsCheck ⟨s.map.junctionFree i x, 3, stationNum i, 5⟩
  | exit (i : StationId) (x : StationItem) (hx : tget s.map.stations i = some x) :
      s.IsCheck ⟨decide (s.map.params.carrierLen + 8 ≤ x.exitLen), 3, stationNum i, 6⟩
  | note (i : StationId) : s.IsCheck ⟨s.map.noteHolds i, 3, stationNum i, 7⟩
  | orders (i : StationId) : s.IsCheck ⟨s.ordersHold i, 3, stationNum i, 8⟩
  | kinds : s.IsCheck ⟨s.map.hasKinds, 3, 0, 9⟩
  | places : s.IsCheck ⟨decide (allCarriers.countP (fun c => (s.car c).state != .out) ≤ s.map.depotPlaces), 3, 0, 10⟩
  | window (w : Fin 16) : s.IsCheck ⟨s.map.windowHolds w, 4, w.val + 1, 11⟩
  | bin (e : Fin 8) : s.IsCheck ⟨s.map.binHolds e, 5, e.val, 12⟩
  | fastest : s.IsCheck ⟨decide (1024 ≤ s.map.params.runRate.divisor), 6, 5, 13⟩
  | rates : s.IsCheck ⟨decide (s.map.params.runRate.divisor ≤ s.map.params.slowRate.divisor), 6, 6, 14⟩

theorem State.mem_stationChecks (s : State) (i : StationId) (c : MapCheck) :
    c ∈ s.stationChecks i ↔ (∃ x, tget s.map.stations i = some x ∧
        (c = ⟨decide (x.junction.val < s.S), 3, stationNum i, 4⟩ ∨ c = ⟨s.map.junctionFree i x, 3, stationNum i, 5⟩ ∨
          c = ⟨decide (s.map.params.carrierLen + 8 ≤ x.exitLen), 3, stationNum i, 6⟩)) ∨
      c = ⟨s.map.noteHolds i, 3, stationNum i, 7⟩ ∨ c = ⟨s.ordersHold i, 3, stationNum i, 8⟩ := by
  unfold State.stationChecks
  cases tget s.map.stations i <;> simp [or_assoc]

theorem StopMap.mem_liveChecks (m : StopMap) (c : MapCheck) :
    c ∈ m.liveChecks ↔ (∃ w : Fin 16, c = ⟨m.windowHolds w, 4, w.val + 1, 11⟩) ∨ (∃ e : Fin 8, c = ⟨m.binHolds e, 5, e.val, 12⟩) ∨
      c = ⟨decide (1024 ≤ m.params.runRate.divisor), 6, 5, 13⟩ ∨
      c = ⟨decide (m.params.runRate.divisor ≤ m.params.slowRate.divisor), 6, 6, 14⟩ := by
  have live : m.liveChecks = (List.finRange 16).map (fun w => ⟨m.windowHolds w, 4, w.val + 1, 11⟩) ++
      (List.finRange 8).map (fun e => ⟨m.binHolds e, 5, e.val, 12⟩) ++
      [⟨decide (1024 ≤ m.params.runRate.divisor), 6, 5, 13⟩,
        ⟨decide (m.params.runRate.divisor ≤ m.params.slowRate.divisor), 6, 6, 14⟩] := rfl
  simp [live, eq_comm]

theorem State.mem_mapChecks_iff (s : State) (c : MapCheck) : c ∈ s.mapChecks ↔ s.IsCheck c := by
  simp only [State.mapChecks, State.setChecks, StopMap.sectionChecks, List.mem_append, List.mem_cons, List.mem_flatMap,
    List.mem_filter, allSections, allStations, List.mem_finRange, State.mem_stationChecks, StopMap.mem_liveChecks,
    List.not_mem_nil, or_false, true_and, decide_eq_true_eq, or_assoc]
  constructor
  · rintro (rfl | ⟨k, hk, rfl | rfl⟩ | ⟨i, ⟨x, hx, rfl | rfl | rfl⟩ | rfl | rfl⟩ | rfl | rfl | ⟨w, rfl⟩ | ⟨e, rfl⟩ | rfl | rfl)
    · exact .loop
    · exact .sectionSet k hk
    · exact .sectionLen k hk
    · exact .junction i x hx
    · exact .junctionFree i x hx
    · exact .exit i x hx
    · exact .note i
    · exact .orders i
    · exact .kinds
    · exact .places
    · exact .window w
    · exact .bin e
    · exact .fastest
    · exact .rates
  · intro h
    cases h with
    | loop => exact .inl rfl
    | sectionSet k hk => exact .inr <| .inl ⟨k, hk, .inl rfl⟩
    | sectionLen k hk => exact .inr <| .inl ⟨k, hk, .inr rfl⟩
    | junction i x hx => exact .inr <| .inr <| .inl ⟨i, .inl ⟨x, hx, .inl rfl⟩⟩
    | junctionFree i x hx => exact .inr <| .inr <| .inl ⟨i, .inl ⟨x, hx, .inr (.inl rfl)⟩⟩
    | exit i x hx => exact .inr <| .inr <| .inl ⟨i, .inl ⟨x, hx, .inr (.inr rfl)⟩⟩
    | note i => exact .inr <| .inr <| .inl ⟨i, .inr (.inl rfl)⟩
    | orders i => exact .inr <| .inr <| .inl ⟨i, .inr (.inr rfl)⟩
    | kinds => exact .inr <| .inr <| .inr <| .inl rfl
    | places => exact .inr <| .inr <| .inr <| .inr <| .inl rfl
    | window w => exact .inr <| .inr <| .inr <| .inr <| .inr <| .inl ⟨w, rfl⟩
    | bin e => exact .inr <| .inr <| .inr <| .inr <| .inr <| .inr <| .inl ⟨e, rfl⟩
    | fastest => exact .inr <| .inr <| .inr <| .inr <| .inr <| .inr <| .inr <| .inl rfl
    | rates => exact .inr <| .inr <| .inr <| .inr <| .inr <| .inr <| .inr <| .inr <| rfl

/-- Every check passes exactly where none is the first to fail (R16). -/
theorem State.firstFailure_eq_none (s : State) : s.firstFailure = none ↔ ∀ c ∈ s.mapChecks, c.passes = true := by
  simp [State.firstFailure]

/-- The first check that fails is the one behind checks that pass (R16). -/
theorem State.firstFailure_eq_some {s : State} {before after : List MapCheck} {c : MapCheck}
    (hsplit : s.mapChecks = before ++ c :: after) (hb : ∀ b ∈ before, b.passes = true) (hc : c.passes = false) :
    s.firstFailure = some c := by
  rw [State.firstFailure, hsplit, List.find?_append, List.find?_eq_none.mpr (by simpa using hb)]
  simp [hc]

/-- A map whose checks all pass is closed. -/
theorem State.closed_of_firstFailure {s : State} (h : s.firstFailure = none) : s.map.Closed := by
  have passes : ∀ {c : MapCheck}, s.IsCheck c → c.passes = true := fun {c} hc =>
    s.firstFailure_eq_none.mp h c ((s.mem_mapChecks_iff c).mpr hc)
  have free : ∀ i x, tget s.map.stations i = some x → ∀ j < i, ∀ y, tget s.map.stations j = some y → y.junction ≠ x.junction :=
    fun i x hx => (s.map.junctionFree_iff i x).mp (passes (.junctionFree i x hx))
  refine ⟨passes .loop, fun k hk => ⟨passes (.sectionSet k hk), of_decide_eq_true (passes (.sectionLen k hk))⟩,
    fun i x hx => ⟨of_decide_eq_true (passes (.junction i x hx)), of_decide_eq_true (passes (.exit i x hx)), ?_⟩,
    fun w => (s.map.windowHolds_iff w).mp (passes (.window w)), fun e => (s.map.binHolds_iff e).mp (passes (.bin e)),
    of_decide_eq_true (passes .fastest), of_decide_eq_true (passes .rates)⟩
  intro j y hy hxy
  rcases Nat.lt_trichotomy j.val i.val with hlt | heq | hgt
  · exact absurd hxy (free i x hx j hlt y hy)
  · exact Fin.ext heq
  · exact absurd hxy.symm (free j y hy i hgt x hx)

end Sys2Proof.Machine

/-! Every step keeps a VALID map valid (R6, R7, R9, R10, R16). -/

namespace Sys2Proof.Machine

theorem judgeMapOpen_keeps_sound (r : Req) {s : State} (h : s.map.sound) : (judgeMapOpen r s).Keeps fun t => t.map.sound := by
  have opened : ∀ m : StopMap, m.state = .edit → m.sound := fun m hm => StopMap.sound_of_ne (by simp [hm])
  refine emptyBody_keeps r ?_
  split
  · exact opened _ rfl
  · exact h
  · exact Verdict.keeps_ite (fun _ => opened _ rfl) fun _ => trivial

/-- A write that passes its steps keeps a sound map sound (R14). -/
theorem StopMap.sound_write {m : StopMap} (h : m.sound) {x : ItemRef} {fields : List Byte} {v : ItemVal}
    (hstep4 : ¬ (x.layout = true ∧ m.state ≠ .edit)) (hp : parseItem x fields = some v) (ha : m.admits v = true) :
    (m.write v).sound := by
  rw [StopMap.sound_iff, StopMap.write_state]
  intro hv
  have hlive : v.ref.layout = false := by
    rw [(parseItem_parsed hp).ref_eq]
    simpa [hv] using hstep4
  exact (m.sound_iff.mp h hv).write hv hlive ha

theorem judgeMapWrite_keeps_sound (r : Req) {s : State} (h : s.map.sound) : (judgeMapWrite r s).Keeps fun t => t.map.sound := by
  unfold judgeMapWrite
  split
  · split
    · trivial
    · refine Verdict.keeps_ite (fun _ => trivial) fun _ => Verdict.keeps_ite (fun _ => trivial) fun hstep4 => ?_
      split
      · trivial
      · next v hp =>
        refine Verdict.keeps_ite (fun ha => ?_) fun _ => trivial
        show (((s.setMap (s.map.write v)).done r []).finish).map.sound
        rw [State.finish_map]
        exact StopMap.sound_write h hstep4 hp ha
  · trivial

/-- Closing a map that passes every check leaves it sound (R16, R17). -/
theorem State.closeMap_sound {s : State} (h : s.firstFailure = none) : s.closeMap.map.sound := by
  obtain ⟨loop, sections, stations, windows, bins, fastest, rates⟩ := State.closed_of_firstFailure h
  exact (StopMap.sound_iff _).mpr fun _ => ⟨loop, sections, stations, windows, bins, fastest, rates⟩

theorem judgeMapClose_keeps_sound (r : Req) (s : State) : (judgeMapClose r s).Keeps fun t => t.map.sound := by
  refine emptyBody_keeps r (Verdict.keeps_ite (fun _ => ?_) fun _ => trivial)
  split
  · trivial
  · next hpass =>
    show s.closeMap.map.sound
    exact State.closeMap_sound hpass

/-- A reset that keeps the map, but for its notes, keeps it sound (R2). -/
theorem State.warmReset_sound {s : State} (h : s.map.sound) (high : List Sensor) (straps : Straps) (pin service : Bool) :
    (s.warmReset high straps pin service).map.sound := h

theorem judgeReset_keeps_sound (high : List Sensor) (straps : Straps) (r : Req) {s : State} (h : s.map.sound) :
    (judgeReset high straps r s).Keeps fun t => t.map.sound :=
  emptyBody_keeps (P := fun t => t.map.sound) r (State.warmReset_sound h high straps s.track.causePin true)

/-- A request whose judge keeps the map sound does so. -/
theorem request_keeps_sound {s t : State} {k : ReqKind} {l : Link} {judge : Req → State → Verdict} (h : s.map.sound)
    (hj : ∀ (r : Req) {u : State}, u.map.sound → (judge r u).Keeps fun t => t.map.sound)
    (e : Host.Outcome.next (s.request k l judge) = (.next t : Host.Outcome State Fault Refusal)) : t.map.sound := by
  cases e
  exact State.request_keeps (P := fun t => t.map.sound) (fun _ _ h => h) k l h fun r _ h => hj r h

/-- Every command keeps the map sound: a command that does not write it, as it stands. -/
theorem exec_keeps_sound {i : Instr} {s t : State} (h : s.map.sound) (e : exec i s = .next t) : t.map.sound := by
  cases hi : i.writesMap with
  | false => exact (exec_keeps_setup hi e).1 ▸ h
  | true =>
    cases i with
    | powerOnReset high straps => cases e; exact StopMap.sound_of_ne (by simp [StopMap.reset])
    | pinReset high straps => cases e; exact State.warmReset_sound h high straps true s.track.causeService
    | reset l high straps => exact request_keeps_sound h (judgeReset_keeps_sound high straps) e
    | mapOpen l => exact request_keeps_sound h judgeMapOpen_keeps_sound e
    | mapWrite l => exact request_keeps_sound h judgeMapWrite_keeps_sound e
    | mapClose l => exact request_keeps_sound h (fun r u _ => judgeMapClose_keeps_sound r u) e
    | _ => cases hi

/-- Settles O18: a command that writes the map keeps it sound, and every other leaves it as it stands. -/
theorem validMapStaysValid : Obligations.ValidMapStaysValid := by
  intro s t h e
  unfold step at e
  split at e
  · cases e
    exact h
  · next rest _ => exact exec_keeps_sound (s := { s with pending := rest }) h e

end Sys2Proof.Machine

/-! Events that are not delivered: what an accepted level of such a sensor does to its filter and its slot (R13, R20, R25). -/

namespace Sys2Proof.Machine

/-! ## Filters -/

/-- The sensor a filter belongs to (R20). -/
def sensorAt (n : Fin 57) : Sensor :=
  if h : n.val < 32 then .entry ⟨n.val, h⟩
  else if h : n.val < 44 then .spurEntry ⟨n.val - 32, by omega⟩
  else if h : n.val < 56 then .dock ⟨n.val - 44, by omega⟩
  else .driveReady

theorem sensorAt_sensorIndex (x : Sensor) : sensorAt (sensorIndex x) = x := by
  cases x with
  | entry k => simp [sensorAt, sensorIndex]
  | spurEntry i =>
    have hi : 32 + i.val < 44 := by omega
    simp [sensorAt, sensorIndex, hi]
  | dock i =>
    have hspur : ¬ 44 + i.val < 32 := by omega
    have hi : 44 + i.val < 56 := by omega
    simp [sensorAt, sensorIndex, hspur, hi]
  | driveReady => rfl

/-- No two sensors share a filter (R20). -/
theorem sensorIndex_injective : Function.Injective sensorIndex := Function.LeftInverse.injective sensorAt_sensorIndex

@[simp] theorem State.filter_setFilter (s : State) (x : Sensor) (f : Filter) : (s.setFilter x f).filter x = f := tget_tset ..

theorem State.filter_setFilter_ne (s : State) {x y : Sensor} (f : Filter) (h : y ≠ x) :
    (s.setFilter x f).filter y = s.filter y := tget_tset_ne _ _ fun e => h (sensorIndex_injective e.symm)

/-- The accepted level is the other one, so the logical state is too (R22). -/
@[simp] theorem State.active_accepted (s : State) (x : Sensor) : (s.accepted x).active x = !s.active x := by
  have hlevel : ((s.accepted x).filter x).accepted = !(s.filter x).accepted := by simp [State.accepted]
  unfold State.active
  rw [hlevel, State.accepted_map]
  cases s.map.polarity x <;> simp [Polarity.active]

/-! ## Edges and reads that are dropped -/

section Dropped

variable {s : State} {x : Sensor}

theorem State.deliverLead_of_not_delivers (h : s.delivers x = false) : s.deliverLead x = s := by
  simp [State.deliverLead, h]

theorem State.deliverTrail_of_not_delivers (h : s.delivers x = false) : s.deliverTrail x = s := by
  simp [State.deliverTrail, h]

theorem State.deliverRead_of_not_delivers (read : Option CarrierId) (h : s.delivers x = false) : s.deliverRead x read = s := by
  simp [State.deliverRead, h]

/-- A slot after a LEAD of its sensor (R25). -/
def Slot.afterLead : Slot → Slot
  | .empty | .leadWaiting _ => .leadWaiting 40
  | .reportWaiting _ _ => .empty

/-- A LEAD that is not delivered changes its sensor's slot alone (R25). -/
theorem State.leadWithSlot_of_not_delivers (r : ReaderId) (h : s.delivers x = false) :
    s.leadWithSlot x r = s.setSlot r (tget s.line.slots r).afterLead := by
  have hset : ∀ y, (s.setSlot r y).delivers x = false := fun _ => h
  unfold State.leadWithSlot
  cases tget s.line.slots r with
  | empty => exact State.deliverLead_of_not_delivers (hset _)
  | leadWaiting w =>
    dsimp only
    rw [State.deliverRead_of_not_delivers none (hset _), State.deliverLead_of_not_delivers (hset _)]
    rfl
  | reportWaiting read w =>
    dsimp only
    rw [State.deliverLead_of_not_delivers (hset _), State.deliverRead_of_not_delivers read (hset _)]
    rfl

/-- The events of a sensor not in use, and of any while the map is not VALID, are not delivered, but for DRIVE_READY's
(R13, R20). -/
theorem State.not_delivers (hx : x ≠ .driveReady) (h : s.map.state ≠ .valid ∨ s.inUse x = false) : s.delivers x = false := by
  rcases h with h | h <;> simp [State.delivers, hx, h]

end Dropped

/-- Settles O47, by whether the new level makes a LEAD of a sensor with a reader. -/
theorem eventsAreDropped : Obligations.EventsAreDropped := by
  intro x s hx hdue hdrop
  have hnot : (s.accepted x).delivers x = false := State.not_delivers (s := s) hx hdrop
  have hexec : exec (.sensorLevelAccepted x) s =
      .next (if (s.accepted x).active x then (s.accepted x).lead x else (s.accepted x).deliverTrail x) := by
    show execSensorLevelAccepted x s = _
    simp only [execSensorLevelAccepted, hdue, if_true]
    rfl
  have other : ∀ y, y ≠ x → (s.accepted x).filter y = s.filter y := fun y hy => State.filter_setFilter_ne _ _ hy
  rw [State.active_accepted] at hexec
  cases hact : s.active x with
  | true =>
    refine ⟨s.accepted x, ?_, rfl, State.filter_setFilter .., other, fun _ _ => rfl, fun _ _ h => by cases h⟩
    simpa [hact, State.deliverTrail_of_not_delivers hnot] using hexec
  | false =>
    cases hr : readerOf x with
    | none =>
      refine ⟨s.accepted x, ?_, rfl, State.filter_setFilter .., other, fun _ _ => rfl, fun _ h => by cases h⟩
      simpa [hact, State.lead, hr, State.deliverLead_of_not_delivers hnot] using hexec
    | some r =>
      refine ⟨(s.accepted x).setSlot r (tget (s.accepted x).line.slots r).afterLead, ?_, rfl, State.filter_setFilter .., other, ?_, ?_⟩
      · simpa [hact, State.lead, hr, State.leadWithSlot_of_not_delivers r hnot] using hexec
      · rintro r' (hne | h)
        · exact tget_tset_ne _ _ fun e => hne (congrArg some e)
        · cases h
      · rintro _ ⟨⟩ -
        refine (tget_tset ..).trans ?_
        show (tget s.line.slots r).afterLead = _
        cases tget s.line.slots r <;> rfl

end Sys2Proof.Machine

/-! MAP_OPEN and MAP_READ (R12, R15). -/

namespace Sys2Proof.Machine

/-! ## MAP_OPEN -/

/-- A carrier is at rest when it is UNKNOWN or OUT, or IDLE in a depot (R12). -/
theorem State.atRest_iff (s : State) (c : CarrierId) : s.atRest c = true ↔
    (s.car c).state = .unknown ∨ (s.car c).state = .out ∨
      ((s.car c).state = .idle ∧ ∃ i, (s.stn i).kind = some .depot ∧ c ∈ (s.stn i).queue) := by
  simp only [State.atRest, CarrierRec.inService, allStations, Bool.or_eq_true, Bool.and_eq_true, Bool.not_eq_true',
    Bool.and_eq_false_iff, bne_eq_false_iff_eq, beq_iff_eq, List.any_eq_true, List.mem_finRange, List.contains_iff_mem, true_and]
  rw [or_comm (a := (s.car c).state = .out), or_assoc]

/-- When a VALID map may be opened (R12). -/
theorem State.mayOpen_iff (s : State) : s.mayOpen = true ↔
    (s.track.mode = .park ∨ s.track.mode = .hold) ∧ (∀ o ∈ s.book.orders, o.carrier = none) ∧
      (∀ c, (s.car c).state = .unknown ∨ (s.car c).state = .out ∨
        ((s.car c).state = .idle ∧ ∃ i, (s.stn i).kind = some .depot ∧ c ∈ (s.stn i).queue)) ∧
      (∀ k, (s.sec k).st = .free) ∧ s.cars.jog = none := by
  simp only [State.mayOpen, allCarriers, allSections, Bool.and_eq_true, Bool.or_eq_true, beq_iff_eq, List.all_eq_true,
    List.mem_finRange, true_imp_iff, Option.isNone_iff_eq_none, State.atRest_iff, and_assoc]

/-- Settles O11, by the map state. -/
theorem mapOpen : Obligations.MapOpen := by
  intro tag s h
  rw [exec_of_request h rfl rfl]
  refine ⟨fun hs => ?_, fun hs => ?_, fun hs => ⟨fun hrest => ?_, fun hbusy => ?_⟩⟩
  · simp [judgeMapOpen, hs, State.setMap_done_take]
  · simp [judgeMapOpen, hs]
  · have hmay : (s.take .service).mayOpen = true := s.mayOpen_iff.mpr hrest
    have hnotes : (s.take .service).spurNotes = Vector.ofFn fun i =>
        if (s.stn i).queue = [] then none else some ((s.stn i).junction, (s.stn i).queue.length) := by
      simp [State.spurNotes]
    simp [judgeMapOpen, hs, hmay, hnotes, State.setMap_done_take]
  · have hmay : (s.take .service).mayOpen = false := Bool.eq_false_iff.mpr fun hmay => hbusy (s.mayOpen_iff.mp hmay)
    simp [judgeMapOpen, hs, hmay, Busy.code]

/-! ## MAP_READ -/

/-- Settles O14, by the group code and whether the item exists. -/
theorem mapRead : Obligations.MapRead := by
  intro tag g i s h
  rw [exec_of_request h rfl rfl]
  refine ⟨fun x hx => ?_, ?_, fun hnone hne => ?_⟩
  · have hg : g ≠ 0#8 := by
      rintro rfl
      cases hx
    simp [judgeMapRead, hg, hx]
  · rintro rfl rfl
    cases hs : s.map.state <;> simp [judgeMapRead, hs, MapState.code, byte1]
  · by_cases hg : g = 0#8
    · subst hg
      have hi : i ≠ 0#8 := fun hi => hne ⟨rfl, hi⟩
      simp [judgeMapRead, hi, Reason.body]
    · simp [judgeMapRead, hg, hnone, Reason.body]

end Sys2Proof.Machine

/-! MAP_WRITE in its steps (R14): the items there are (R1), the ranges of their fields (R3 to R8), the live checks (R6, R7, R9, R10)
and the write. -/

namespace Sys2Proof.Machine

/-! ## The items -/

@[simp] theorem sectionOf_val (k : SectionId) : sectionOf k.val = some k := sectionOf_eq_some.mpr rfl

@[simp] theorem stationOf_num (i : StationId) : stationOf (i.val + 1) = some i := stationOf_eq_some.mpr rfl

theorem itemRef_window (w : Fin 16) : itemRef 4 (w.val + 1) = some (.window w) := dif_pos (by omega)

theorem itemRef_param (p : Fin 12) : itemRef 6 (p.val + 1) = some (.param p) := dif_pos (by omega)

/-- No item has a group or an index outside the table of R1. -/
theorem itemRef_eq_none {g i : Nat} (h : ¬ (g = 1 ∧ i = 0 ∨ g = 2 ∧ i ≤ 31 ∨ g = 3 ∧ 1 ≤ i ∧ i ≤ 12 ∨ g = 4 ∧ 1 ≤ i ∧ i ≤ 16 ∨
    g = 5 ∧ i ≤ 7 ∨ g = 6 ∧ 1 ≤ i ∧ i ≤ 12)) : itemRef g i = none := by
  unfold itemRef
  split
  · exact if_neg (by omega)
  · simp only [Option.map_eq_none_iff, sectionOf_eq_none]
    omega
  · simp only [Option.map_eq_none_iff, stationOf_eq_none]
    omega
  · exact dif_neg (by omega)
  · exact dif_neg (by omega)
  · exact dif_neg (by omega)
  · rfl

/-- The parameters of two fields are the rates, 5 and 6 (R8). -/
theorem ItemRef.bodyLen_param (p : Fin 12) : (ItemRef.param p).bodyLen = if p = 4 ∨ p = 5 then 4 else 3 := by
  have h4 : p = 4 ↔ p.val = 4 := Fin.ext_iff
  have h5 : p = 5 ↔ p.val = 5 := Fin.ext_iff
  simp only [ItemRef.bodyLen, h4, h5]

/-! ## Ranges -/

/-- The polarity a byte within its range is the code of. -/
def bytePolarity (x : Byte) : Polarity := if x = 1#8 then .activeLow else .activeHigh

theorem Polarity.code_le_one (p : Polarity) : p.code ≤ 1 := by cases p <;> decide

theorem polarityOf_byte (x : Byte) : polarityOf x.toNat = if x.toNat ≤ 1 then some (bytePolarity x) else none := by
  split
  · next h =>
    rw [polarityOf_eq_some]
    unfold bytePolarity
    split
    · next h1 => rw [h1]; rfl
    · next h1 =>
      have h0 : x.toNat ≠ 1 := fun e => h1 (BitVec.eq_of_toNat_eq e)
      show x.toNat = 0
      omega
  · next h =>
    refine Option.eq_none_iff_forall_ne_some.mpr fun p hp => h ?_
    exact polarityOf_eq_some.mp hp ▸ p.code_le_one

/-- A kind's code in a byte (R14). -/
theorem Kind.toNat_eq_code {kind : Byte} {kd : Kind} (h : kind = (match kd with
    | .stock => 1#8
    | .counter => 2#8
    | .depot => 3#8)) : kindOfCode kind.toNat = some kd := by
  subst h
  cases kd <;> rfl

theorem Kind.maxCapacity_eq (kd : Kind) : kd.maxCapacity = if kd = .depot then 8 else 3 := by cases kd <;> rfl

theorem kindOfCode_eq_none {n : Nat} (h : 4 ≤ n) : kindOfCode n = none := by
  refine Option.eq_none_iff_forall_ne_some.mpr fun k hk => ?_
  have hn := kindOfCode_eq_some.mp hk
  cases k <;> simp only [kindCode] at hn <;> omega

theorem parseItem_loop (n a : Byte) : parseItem .loop [n, a] =
    if 8 ≤ n.toNat ∧ n.toNat ≤ 32 ∧ a.toNat + 2 ≤ n.toNat then some (.loop ⟨n.toNat, a.toNat⟩) else none := by
  have hlimit : (8 ≤ n.toNat ∧ n.toNat ≤ 32 ∧ a.toNat ≤ n.toNat - 2) ↔ (8 ≤ n.toNat ∧ n.toNat ≤ 32 ∧ a.toNat + 2 ≤ n.toNat) := by
    omega
  simp only [parseItem, parseLoop, hlimit]
  split <;> rfl

theorem parseItem_section (k : SectionId) (hi lo p : Byte) : parseItem (.sectionAt k) [hi, lo, p] =
    if 32 ≤ word2 hi lo ∧ word2 hi lo ≤ 4095 ∧ p.toNat ≤ 1 then some (.sectionAt k ⟨word2 hi lo, bytePolarity p⟩) else none := by
  simp only [parseItem, parseSection, polarityOf_byte]
  by_cases hp : p.toNat ≤ 1 <;> by_cases hlen : 32 ≤ word2 hi lo ∧ word2 hi lo ≤ 4095 <;> simp [hp, hlen]

section Station

variable (i : StationId) (kind j cap xh xl yh yl pn pk : Byte)

/-- A station of a kind other than NONE is parsed by its fields (R5). -/
theorem parseItem_station {kd : Kind} (hk : kindOfCode kind.toNat = some kd) :
    parseItem (.station i) [kind, j, cap, xh, xl, yh, yl, pn, pk] =
      (parseStation kd j.toNat cap.toNat (word2 xh xl) (word2 yh yl) pn.toNat pk.toNat).map fun x => .station i (some x) := by
  have h0 : kind.toNat ≠ 0 := by
    intro h0
    rw [h0] at hk
    cases hk
  simp [parseItem, h0, hk]

theorem parseItem_station_of_unknown_kind (hk : 4 ≤ kind.toNat) :
    parseItem (.station i) [kind, j, cap, xh, xl, yh, yl, pn, pk] = none := by
  have h0 : kind.toNat ≠ 0 := by omega
  simp [parseItem, h0, kindOfCode_eq_none hk]

variable {kd : Kind} (hk : kindOfCode kind.toNat = some kd)

include hk

/-- Fields within the ranges of R5 parse. -/
theorem parseItem_station_in_range {jn : SectionId} (hj : j.toNat = jn.val) (hc1 : 1 ≤ cap.toNat)
    (hc : cap.toNat ≤ kd.maxCapacity)
    (hx1 : 16 ≤ word2 xh xl) (hx : word2 xh xl ≤ 1023) (hy1 : 16 ≤ word2 yh yl) (hy : word2 yh yl ≤ 1023) (hn : pn.toNat ≤ 1)
    (hd : pk.toNat ≤ 1) : parseItem (.station i) [kind, j, cap, xh, xl, yh, yl, pn, pk] =
      some (.station i (some ⟨kd, jn, cap.toNat, word2 xh xl, word2 yh yl, bytePolarity pn, bytePolarity pk⟩)) := by
  have pol : ∀ {p : Byte}, p.toNat ≤ 1 → p.toNat = (bytePolarity p).code := fun {p} hp =>
    polarityOf_eq_some.mp ((polarityOf_byte p).trans (if_pos hp))
  have parsed : parseStation kd j.toNat cap.toNat (word2 xh xl) (word2 yh yl) pn.toNat pk.toNat =
      some ⟨kd, jn, cap.toNat, word2 xh xl, word2 yh yl, bytePolarity pn, bytePolarity pk⟩ :=
    parseStation_eq_some.mpr ⟨⟨hc1, hc, hx1, hx, hy1, hy⟩, rfl, hj, rfl, rfl, rfl, pol hn, pol hd⟩
  rw [parseItem_station i kind j cap xh xl yh yl pn pk hk, parsed]
  rfl

/-- A field outside its range of R5 is one too many. -/
theorem parseItem_station_out_of_range (hout : 32 ≤ j.toNat ∨ cap = 0#8 ∨ kd.maxCapacity < cap.toNat ∨ word2 xh xl < 16 ∨
    1023 < word2 xh xl ∨ word2 yh yl < 16 ∨ 1023 < word2 yh yl ∨ 2 ≤ pn.toNat ∨ 2 ≤ pk.toNat) :
    parseItem (.station i) [kind, j, cap, xh, xl, yh, yl, pn, pk] = none := by
  rw [parseItem_station i kind j cap xh xl yh yl pn pk hk, Option.map_eq_none_iff]
  refine Option.eq_none_iff_forall_ne_some.mpr fun x hx => ?_
  obtain ⟨hrange, -, hj, -, -, -, hn, hd⟩ := parseStation_eq_some.mp hx
  have hj32 := x.junction.isLt
  have hn1 := x.polEntry.code_le_one
  have hd1 := x.polDock.code_le_one
  have hcap : cap = 0#8 ↔ cap.toNat = 0 := BitVec.toNat_inj.symm
  rw [hcap] at hout
  omega

end Station

theorem parseItem_no_station (i : StationId) (j cap xh xl yh yl pn pk : Byte) :
    parseItem (.station i) [0#8, j, cap, xh, xl, yh, yl, pn, pk] = some (.station i none) := rfl

theorem parseItem_no_window (w : Fin 16) : parseItem (.window w) [0#8] = some (.window w none) := rfl

/-- A window's byte other than 0 names its station (R6). -/
theorem parseItem_window (w : Fin 16) {x : Byte} (hx : x.toNat ≠ 0) :
    parseItem (.window w) [x] = (stationOf x.toNat).map fun i => .window w (some i) := by
  simp [parseItem, hx]

theorem parseItem_no_bin (e : Fin 8) (fh fl lh ll r : Byte) :
    parseItem (.bin e) [fh, fl, lh, ll, 0#8, r] = some (.bin e none) := rfl

theorem parseItem_bin_of_no_station (e : Fin 8) (fh fl lh ll r : Byte) {x : Byte} (hx : 13 ≤ x.toNat) :
    parseItem (.bin e) [fh, fl, lh, ll, x, r] = none := by
  have h0 : x.toNat ≠ 0 := by omega
  simp [parseItem, h0, stationOf_eq_none.mpr (.inr hx)]

/-- A bin range that names a station, by the ranges of R7. -/
theorem parseItem_bin (e : Fin 8) (fh fl lh ll r : Byte) {x : Byte} {i : StationId} (hx : x.toNat = i.val + 1) :
    parseItem (.bin e) [fh, fl, lh, ll, x, r] =
      if word2 fh fl ≤ word2 lh ll ∧ word2 lh ll ≤ 4095 ∧ r.toNat ≤ 1
        then some (.bin e (some ⟨word2 fh fl, word2 lh ll, i, r == 1#8⟩)) else none := by
  have hr : (r.toNat == 1) = (r == 1#8) := by
    rw [Bool.eq_iff_iff, beq_iff_eq, beq_iff_eq, ← BitVec.toNat_inj]
    rfl
  simp only [parseItem, hx, Nat.succ_ne_zero, if_false, stationOf_num, parseBin, hr]
  split <;> rfl

/-- A parameter of one field, by its range (R8). -/
theorem parseItem_number (p : Fin 12) (hp : ¬ (p.val = 4 ∨ p.val = 5)) (x : Byte) : parseItem (.param p) [x] =
    if (paramRange p).1 ≤ x.toNat ∧ x.toNat ≤ (paramRange p).2 then some (.number p x.toNat) else none := by
  simp only [parseItem, if_neg hp]

/-- The ranges of the parameters of one field (R8). -/
def paramRanges : List (Fin 12 × Nat × Nat) :=
  [(0, 0, 50), (1, 0, 10), (2, 8, 255), (3, 8, 255), (6, 1, 7), (7, 1, 8), (8, 1, 255), (9, 0, 255), (10, 1, 255), (11, 0, 15)]

theorem paramRange_of_mem : ∀ r ∈ paramRanges, ¬ (r.1.val = 4 ∨ r.1.val = 5) ∧ paramRange r.1 = r.2 := by decide

/-- The rate a code and a reload value within their ranges give (R8). -/
def byteRate (code d : Byte) : Option Rate := if code.toNat ≤ 7 ∧ d.toNat ≤ 254 then some ⟨code.toNat, d.toNat⟩ else none

theorem parseItem_rates (code d : Byte) : parseItem (.param 4) [code, d] = (byteRate code d).map .runRate ∧
    parseItem (.param 5) [code, d] = (byteRate code d).map .slowRate := by
  unfold byteRate
  constructor
  · simp only [parseItem]
    split <;> rfl
  · simp only [parseItem]
    split <;> rfl

/-! ## The steps -/

theorem judgeMapWrite_short (l : Link) (tag : Byte) {body : List Byte} (hb : body.length < 2) (s : State) :
    judgeMapWrite ⟨l, tag, body⟩ s = .refuse .badFormat := by
  rcases body with _ | ⟨g, _ | ⟨i, fields⟩⟩
  · rfl
  · rfl
  · simp only [List.length_cons] at hb
    omega

/-- The first of MAP_WRITE's steps that fails gives its answer (R14). -/
theorem mapWrite_steps (tag g i : Byte) (fields : List Byte) (s : State)
    (h : s.offers .service .mapWrite tag (g :: i :: fields)) :
    (itemRef g.toNat i.toNat = none → exec (.mapWrite .service) s = .next (s.replied .service .refused tag [3#8])) ∧
    ∀ x, itemRef g.toNat i.toNat = some x →
      (fields.length + 2 ≠ x.bodyLen → exec (.mapWrite .service) s = .next (s.replied .service .refused tag [2#8])) ∧
      (fields.length + 2 = x.bodyLen → x.layout = true → s.map.state ≠ .edit →
        exec (.mapWrite .service) s = .next (s.replied .service .refused tag [7#8])) ∧
      (fields.length + 2 = x.bodyLen → (x.layout = true → s.map.state = .edit) →
        (parseItem x fields = none → exec (.mapWrite .service) s = .next (s.replied .service .refused tag [3#8])) ∧
        ∀ v, parseItem x fields = some v →
          (s.map.admits v = false → exec (.mapWrite .service) s = .next (s.replied .service .refused tag [3#8])) ∧
          (s.map.admits v = true → exec (.mapWrite .service) s =
            .next ({ (s.replied .service .done tag []) with map := s.map.write v }).finish)) := by
  rw [exec_of_request h rfl rfl]
  refine ⟨fun hx => ?_, fun x hx => ⟨fun hlen => ?_, fun hlen hlayout hstate => ?_, fun hlen hedit => ?_⟩⟩
  · simp [judgeMapWrite, hx, Reason.body]
  · simp [judgeMapWrite, hx, hlen, Reason.body]
  · simp [judgeMapWrite, hx, hlen, hlayout, hstate, Reason.body]
  · have hopen : ¬ (x.layout = true ∧ s.map.state ≠ .edit) := fun ⟨hl, hne⟩ => hne (hedit hl)
    refine ⟨fun hp => ?_, fun v hp => ⟨fun ha => ?_, fun ha => ?_⟩⟩
    · simp [judgeMapWrite, hx, hlen, hopen, hp, Reason.body]
    · simp [judgeMapWrite, hx, hlen, hopen, hp, ha, Reason.body]
    · simp [judgeMapWrite, hx, hlen, hopen, hp, ha, State.setMap_done_take]

/-! ## The writes -/

/-- A parameter of one field written, parameter by parameter (R8). -/
theorem StopMap.write_number (m : StopMap) (n : Nat) (p : Fin 12) :
    m.write (.number p n) = { m with params := match p with
      | 0 => { m.params with slack := n }
      | 1 => { m.params with loadMargin := n }
      | 2 => { m.params with carrierLen := n }
      | 3 => { m.params with guard := n }
      | 6 => { m.params with goAround := n }
      | 7 => { m.params with stallLimit := n }
      | 8 => { m.params with aging := n }
      | 9 => { m.params with autopark := n }
      | 10 => { m.params with warmup := n }
      | 11 => { m.params with filter := n }
      | _ => m.params } := by
  rcases param_cases p with rfl | rfl | rfl | rfl | rfl | rfl | rfl | rfl | rfl | rfl | rfl | rfl <;> rfl

/-- Settles O13, by the steps, the items, the ranges and the live checks above. -/
theorem mapWrite : Obligations.MapWrite := by
  refine ⟨fun tag body s h hb => ?_, mapWrite_steps, ⟨rfl, fun k => ?_, fun i => ?_, itemRef_window, fun e => ?_, itemRef_param,
    fun g i => itemRef_eq_none, fun x => ?_⟩, ⟨parseItem_loop, parseItem_section, ?_, ?_, ?_, ?_, parseItem_rates⟩, fun m => ?_⟩
  · rw [exec_of_request h rfl rfl, judgeMapWrite_short _ _ hb]
    simp [Reason.body]
  · simp [itemRef]
  · simp [itemRef]
  · simp [itemRef]
  · cases x <;> simp [ItemRef.bodyLen_param, ItemRef.layout] <;> rfl
  · intro i kind j cap xh xl yh yl pn pk item
    refine ⟨?_, parseItem_station_of_unknown_kind i kind j cap xh xl yh yl pn pk, fun kd hkind => ?_⟩
    · rintro rfl
      exact parseItem_no_station ..
    · rw [← Kind.maxCapacity_eq]
      have hk := Kind.toNat_eq_code hkind
      exact ⟨fun jn => parseItem_station_in_range i kind j cap xh xl yh yl pn pk hk,
        parseItem_station_out_of_range i kind j cap xh xl yh yl pn pk hk⟩
  · intro w x
    refine ⟨?_, fun i hx => ?_, fun hx => ?_⟩
    · rintro rfl
      exact parseItem_no_window w
    · rw [parseItem_window w (by omega), hx, stationOf_num, Option.map_some]
    · rw [parseItem_window w (by omega), stationOf_eq_none.mpr (.inr hx), Option.map_none]
  · intro e fh fl lh ll x r item
    refine ⟨?_, parseItem_bin_of_no_station e fh fl lh ll r, fun i => parseItem_bin e fh fl lh ll r⟩
    rintro rfl
    exact parseItem_no_bin ..
  · intro p low high hmem x
    obtain ⟨hp, hrange⟩ := paramRange_of_mem _ hmem
    rw [parseItem_number p hp, hrange]
  · intro steps longest
    have carrierLen := fun n => (m.admits_carrierLen_iff n).trans
      (and_congr (StopMap.fits_iff _) (imp_congr_right fun _ => StopMap.exitsFit_iff _))
    have guard := fun n => (m.admits_guard_iff n).trans (StopMap.fits_iff _)
    exact ⟨fun x => ⟨rfl, rfl⟩, fun k x => ⟨rfl, rfl⟩, fun i x => ⟨rfl, rfl⟩, fun w x => ⟨m.admits_window_iff w x, rfl⟩,
      fun e x => ⟨m.admits_bin_iff e x, rfl⟩, fun x => ⟨m.admits_runRate_iff x, rfl⟩, fun x => ⟨m.admits_slowRate_iff x, rfl⟩,
      fun n => ⟨carrierLen n, guard n, fun p => m.admits_number n, m.write_number n⟩⟩

end Sys2Proof.Machine

/-! MAP_CLOSE: the order of its checks, its refusals, and the map made VALID (R16, R17, R30, R55). -/

namespace Sys2Proof.Machine

/-! ## The checks -/

/-- What a check is refused with: its group code, item index and number (R16). -/
def MapCheck.code (c : MapCheck) : Nat × Nat × Nat := (c.group, c.index, c.number)

theorem State.stationChecks_codes (s : State) (i : StationId) : (s.stationChecks i).map MapCheck.code =
    if tget s.map.stations i = none then [(3, i.val + 1, 7), (3, i.val + 1, 8)]
    else [(3, i.val + 1, 4), (3, i.val + 1, 5), (3, i.val + 1, 6), (3, i.val + 1, 7), (3, i.val + 1, 8)] := by
  unfold State.stationChecks
  cases tget s.map.stations i <;> rfl

theorem StopMap.liveChecks_codes (m : StopMap) : m.liveChecks.map MapCheck.code =
    (List.range 16).map (fun w => (4, w + 1, 11)) ++ (List.range 8).map (fun e => (5, e, 12)) ++ [(6, 5, 13), (6, 6, 14)] := rfl

/-- The checks in R16's order. -/
theorem State.mapChecks_codes (s : State) : s.mapChecks.map MapCheck.code =
    [(1, 0, 1)] ++
    (((List.finRange 32).filter fun k => decide (k.val < s.S)).flatMap fun k => [(2, k.val, 2), (2, k.val, 3)]) ++
    ((List.finRange 12).flatMap fun i =>
      if tget s.map.stations i = none then [(3, i.val + 1, 7), (3, i.val + 1, 8)]
      else [(3, i.val + 1, 4), (3, i.val + 1, 5), (3, i.val + 1, 6), (3, i.val + 1, 7), (3, i.val + 1, 8)]) ++
    [(3, 0, 9), (3, 0, 10)] ++ (List.range 16).map (fun w => (4, w + 1, 11)) ++ (List.range 8).map (fun e => (5, e, 12)) ++
    [(6, 5, 13), (6, 6, 14)] := by
  have sections : ∀ k, (s.map.sectionChecks k).map MapCheck.code = [(2, k.val, 2), (2, k.val, 3)] := fun _ => rfl
  have set : s.setChecks.map MapCheck.code = [(3, 0, 9), (3, 0, 10)] := rfl
  simp only [State.mapChecks, List.map_append, List.map_cons, List.map_flatMap, sections, State.stationChecks_codes, set,
    StopMap.liveChecks_codes, List.append_assoc, List.cons_append, List.nil_append]
  rfl

/-! ## The map made VALID -/

section Adopt

variable (r : StationRec) (x : Option StationItem)

@[simp] theorem StationRec.adopt_kind : (r.adopt x).kind = x.map (·.kind) := by cases x <;> rfl

@[simp] theorem StationRec.adopt_queue : (r.adopt x).queue = r.queue := by cases x <;> rfl

@[simp] theorem StationRec.adopt_closed : (r.adopt x).closed = (r.closed && x.map (·.kind) == some .stock) := by
  cases x with
  | none => simp [StationRec.adopt]
  | some y => cases hk : y.kind <;> simp [StationRec.adopt, hk]

end Adopt

section Retain

variable (l : Latches) (m : StopMap)

@[simp] theorem Latches.retain_d (k : SectionId) : tget (l.retain m).d k = (tget l.d k && decide (k.val < m.sectionCount)) := by
  simp [Latches.retain, tget]

@[simp] theorem Latches.retain_q (i : StationId) : tget (l.retain m).q i = (tget l.q i && (m.kindOf i).isSome) := by
  simp [Latches.retain, tget]

@[simp] theorem Latches.retain_v (i : StationId) : tget (l.retain m).v i = (tget l.v i && (m.kindOf i).isSome) := by
  simp [Latches.retain, tget]

@[simp] theorem Latches.retain_g (i : StationId) : tget (l.retain m).g i = (tget l.g i && (m.kindOf i).isSome) := by
  simp [Latches.retain, tget]

end Retain

section CloseMap

variable (s : State)

theorem State.closeMap_stn (i : StationId) : s.closeMap.stn i = (s.stn i).adopt (tget s.map.stations i) :=
  Vector.getElem_ofFn i.isLt

theorem State.closeMap_sec (k : SectionId) :
    s.closeMap.sec k = if k.val < s.map.sectionCount then s.sec k else SectionRec.reset :=
  Vector.getElem_ofFn k.isLt

end CloseMap

/-- No check looks at a link. -/
@[simp] theorem State.take_firstFailure (s : State) (l : Link) : (s.take l).firstFailure = s.firstFailure := rfl

/-- Settles O15, check by check, and by what the map made VALID changes. -/
theorem mapClose : Obligations.MapClose := by
  refine ⟨fun s => ⟨s.mapChecks_codes, fun c hc => ?_, fun before c after => State.firstFailure_eq_some,
    s.firstFailure_eq_none.mpr⟩, fun tag s h => ?_⟩
  · cases (s.mem_mapChecks_iff c).mp hc with
    | loop => simp [Option.isSome_iff_ne_none]
    | sectionSet k hk => simp [Option.isSome_iff_ne_none, Fin.val_inj]
    | sectionLen k hk => simp [Fin.val_inj]
    | junction i x hx => simp [stationNum, Fin.val_inj, hx]
    | junctionFree i x hx => simp [stationNum, Fin.val_inj, hx, StopMap.junctionFree_iff]
    | exit i x hx => simp [stationNum, Fin.val_inj, hx]
    | note i => simp [stationNum, Fin.val_inj, StopMap.noteHolds_iff]
    | orders i => simp [stationNum, Fin.val_inj, State.ordersHold_iff]
    | kinds => simp [StopMap.hasKinds_iff]
    | places =>
      have places : (allCarriers.countP fun c => (s.car c).state != .out) ≤ s.map.depotPlaces ↔
          ((List.finRange 16).countP fun d => (s.car d).state != .out) ≤ ((List.finRange 12).map s.map.depotCapacity).sum := by
        rw [StopMap.depotPlaces_eq]
        rfl
      simp [places]
      rfl
    | window w =>
      have at_w : (∀ i, tget s.map.windows w = some i → s.map.kindOf i = some .counter) ↔
          ∀ w' i, w = w' → tget s.map.windows w' = some i → s.map.kindOf i = some .counter :=
        ⟨fun h _ i e => e ▸ h i, fun h i => h w i rfl⟩
      simpa [Fin.val_inj, StopMap.windowHolds_iff] using at_w
    | bin e =>
      have at_e : (∀ b, tget s.map.bins e = some b → s.map.kindOf b.station = some .stock) ↔
          ∀ e' b, e = e' → tget s.map.bins e' = some b → s.map.kindOf b.station = some .stock :=
        ⟨fun h _ b e => e ▸ h b, fun h b => h e b rfl⟩
      simpa [Fin.val_inj, StopMap.binHolds_iff] using at_e
    | fastest => simp
    | rates => simp
  · rw [exec_of_request h rfl rfl]
    refine ⟨fun hs => ?_, fun hs c hc => ?_, fun hs hpass => ?_⟩
    · simp [judgeMapClose, hs, Reason.body]
    · simp [judgeMapClose, hs, hc, Reason.body, byte1]
    · refine ⟨(s.take .service).closeMap.done ⟨.service, tag, []⟩ [], by simp [judgeMapClose, hs, hpass], rfl, fun i => ?_,
        Latches.retain_d s.line.latches s.map,
        fun i => ⟨Latches.retain_q s.line.latches s.map i, Latches.retain_v s.line.latches s.map i,
          Latches.retain_g s.line.latches s.map i⟩,
        fun k hk => ((s.take .service).closeMap_sec k).trans (if_pos hk),
        fun k hk => ((s.take .service).closeMap_sec k).trans (if_neg (Nat.not_lt.mpr hk)), rfl, rfl, rfl, rfl, ?_⟩
      · have hstn : ((s.take .service).closeMap.done ⟨.service, tag, []⟩ []).stn i = (s.stn i).adopt (tget s.map.stations i) :=
          (s.take .service).closeMap_stn i
        rw [hstn]
        refine ⟨StationRec.adopt_kind .., StationRec.adopt_queue .., StationRec.adopt_closed .., fun x hx => ?_⟩
        rw [hx]
        exact ⟨rfl, rfl⟩
      · rw [← State.done_take s .service tag [] []]
        rfl

end Sys2Proof.Machine

/-! The three resets (R2, R167) and RETIRE (R111). -/

namespace Sys2Proof.Machine

/-! ## Resets -/

/-- Each filter begins at its pin's level (R35). -/
theorem LineUnit.reset_filters (pins : Vector Bool 57) (i : Fin 57) :
    tget (LineUnit.reset pins).filters i = ⟨tget pins i, 0, false⟩ := by
  simp [LineUnit.reset, tget]

/-- Settles O9: each reset is the state it names, field by field. -/
theorem resets : Obligations.Resets := by
  intro high straps s
  refine ⟨rfl, LineUnit.reset_filters _, rfl, fun tag h => ?_, fun tag b body h => ?_⟩
  · rw [exec_of_request h rfl rfl]
    rfl
  · rw [exec_of_request h rfl rfl]
    simp [judgeReset, Reason.body]

/-! ## RETIRE -/

/-- An UNKNOWN or OUT carrier is not in service (R101). -/
theorem CarrierRec.inService_iff (r : CarrierRec) : r.inService = true ↔ r.state ≠ .out ∧ r.state ≠ .unknown := by
  simp [CarrierRec.inService]

/-- The record of a carrier that has become OUT (R100). -/
theorem State.car_becomeOut (s : State) (c : CarrierId) : (s.becomeOut c).car c =
    { CarrierRec.reset with state := .out, misreads := (s.car c).misreads, suspect := (s.car c).suspect } := by
  have hc : (s.clearStall c StallKinds.none).car c = { (s.car c) with stall := StallKinds.none (s.car c).stall } := by
    unfold State.clearStall
    dsimp only
    split
    · exact State.car_setCar ..
    · exact State.car_setCar ..
  simp [State.becomeOut, State.modCar, hc]

/-- A carrier's record does not depend on the links: it becomes OUT before an answer as after it. -/
theorem State.becomeOut_done (s : State) (c : CarrierId) (r : Req) (body : List Byte) :
    (s.becomeOut c).done r body = (s.done r body).becomeOut c := by
  unfold State.becomeOut State.clearStall
  dsimp only
  have hcar : (s.done r body).car c = s.car c := rfl
  rw [hcar]
  split <;> rfl

/-- A carrier's record written before an answer is the record written after it. -/
theorem State.modCar_done (s : State) (c : CarrierId) (f : CarrierRec → CarrierRec) (r : Req) (body : List Byte) :
    (s.modCar c f).done r body = (s.done r body).modCar c f := rfl

section Retire

variable {s : State} {c : CarrierId}

theorem State.retire_unknown (h : (s.car c).state = .unknown) : s.retire c = s.becomeOut c := by simp [State.retire, h]

theorem State.retire_removing (h : (s.car c).state = .removing) : s.retire c = s := by simp [State.retire, h]

/-- An IDLE carrier at a dock begins its removal, unless one is pending (R111). -/
theorem State.retire_docked {i : StationId} (h : (s.car c).state = .idle) (hp : (s.car c).place = .docked i) :
    s.retire c = if (s.car c).retirePending then s else s.modCar c fun x => x.rest .removing := by simp [State.retire, h, hp]

/-- Every other carrier at work has its removal pending (R111). -/
theorem State.retire_at_work (h : (s.car c).inService = true) (hr : (s.car c).state ≠ .removing)
    (hd : ¬ ((s.car c).state = .idle ∧ ∃ i, (s.car c).place = .docked i)) :
    s.retire c = s.modCar c fun x => { x with retirePending := true } := by
  obtain ⟨hout, hunknown⟩ := (s.car c).inService_iff.mp h
  unfold State.retire
  dsimp only
  split
  · exact absurd ‹_› hout
  · exact absurd ‹_› hunknown
  · exact absurd ‹_› hr
  · next hidle =>
    split
    · next i hp => exact absurd ⟨hidle, i, hp⟩ hd
    · rfl
  all_goals rfl

end Retire

/-- The verdict on a RETIRE that names a carrier (R111, R13). -/
theorem judgeRetire_carrier {b : Byte} {c : CarrierId} (hb : b.toNat = c.val) (l : Link) (tag : Byte) (s : State) :
    judgeRetire ⟨l, tag, [b]⟩ s =
      if s.map.state = .edit ∧ (s.car c).inService = true then .busy .mapEdit
      else if (s.car c).state = .out then .refuse .wrongState
      else .accept ((s.retire c).done ⟨l, tag, [b]⟩ []).finish := by
  simp only [judgeRetire, withCarrier, carrierOf_eq_some.mpr hb]

/-- Settles O40, by the carrier's state and place. -/
theorem retireTakesOffTheRail : Obligations.RetireTakesOffTheRail := by
  intro tag b s c h hb
  have accepted : ∀ {t : State}, (s.take .service).retire c = t → (s.car c).state ≠ .out →
      (s.map.state ≠ .edit ∨ (s.car c).state = .unknown) →
      exec (.retire .service) s = .next (t.done ⟨.service, tag, [b]⟩ []).finish := by
    rintro _ rfl hout hmap
    have hedit : ¬ (s.map.state = .edit ∧ (s.car c).inService = true) := by
      rintro ⟨he, hin⟩
      exact hmap.elim (absurd he) ((s.car c).inService_iff.mp hin).2
    rw [exec_of_request h rfl rfl, judgeRetire_carrier hb, State.take_map, State.take_car, if_neg hedit, if_neg hout,
      Verdict.run_accept]
  refine ⟨fun hout => ?_, fun hedit hout hunknown => ?_, fun hunknown => ⟨?_, State.car_becomeOut s c⟩, fun hmap =>
    ⟨fun i hidle hplace => ⟨fun hpending => ?_, fun hpending => ?_⟩, fun hin hremoving hdock => ?_, fun hremoving => ?_⟩⟩
  · have hin : (s.car c).inService = false := by simp [CarrierRec.inService, hout]
    rw [exec_of_request h rfl rfl, judgeRetire_carrier hb]
    simp [hin, hout, Reason.body]
  · have hin : (s.car c).inService = true := (s.car c).inService_iff.mpr ⟨hout, hunknown⟩
    rw [exec_of_request h rfl rfl, judgeRetire_carrier hb]
    simp [hin, hedit, Busy.code]
  · rw [accepted (State.retire_unknown hunknown) (by simp [hunknown]) (.inr hunknown), State.becomeOut_done, State.done_take]
  · rw [accepted (State.retire_docked hidle hplace) (by simp [hidle]) (.inl hmap), State.take_car, hpending, if_neg nofun,
      State.modCar_done, State.done_take]
    rfl
  · rw [accepted (State.retire_docked hidle hplace) (by simp [hidle]) (.inl hmap), State.take_car, hpending, if_pos rfl,
      State.done_take]
  · rw [accepted (State.retire_at_work hin hremoving hdock) ((s.car c).inService_iff.mp hin).1 (.inl hmap), State.modCar_done,
      State.done_take]
  · rw [accepted (State.retire_removing hremoving) (by simp [hremoving]) (.inl hmap), State.done_take]

end Sys2Proof.Machine

/-! What the link units and every request's form refuse (R126, R179, R180, 6.5). -/

namespace Sys2Proof.Machine

/-! ## The judge of each request kind -/

/-- The verdict of the block that owns a request kind (R179); the pins and straps are read by RESET alone. -/
def ReqKind.judge (k : ReqKind) (high : List Sensor) (straps : Straps) : Req → State → Verdict :=
  match k with
  | .place => judgePlace
  | .cancel => judgeCancel
  | .expedite => judgeExpedite
  | .taken => judgeTaken
  | .query => judgeQuery
  | .loaded => judgeLoaded
  | .short => judgeShort
  | .endorse => judgeEndorse
  | .closeStation => judgeCloseStation
  | .openStation => judgeOpenStation
  | .setMode => judgeSetMode
  | .settle => judgeSettle
  | .resume => judgeResume
  | .recover => judgeRecover
  | .survey => judgeSurvey
  | .reset => judgeReset high straps
  | .clearCause => judgeClearCause
  | .admitCarrier => judgeAdmit
  | .retire => judgeRetire
  | .clearCarrier => judgeClearCarrier
  | .jog => judgeJog
  | .mapOpen => judgeMapOpen
  | .mapWrite => judgeMapWrite
  | .mapRead => judgeMapRead
  | .mapClose => judgeMapClose
  | .readTrack => judgeReadTrack
  | .readSection => judgeReadSection
  | .readStation => judgeReadStation
  | .readCarrier => judgeReadCarrier
  | .readLines => judgeReadLines
  | .readLink => judgeReadLink

/-- The command of a request kind takes a request of it and has it judged (R179). -/
theorem exec_command (k : ReqKind) (l : Link) (high : List Sensor) (straps : Straps) (s : State) :
    exec (k.command l high straps) s = .next (s.request k l (k.judge high straps)) := by
  cases k <;> rfl

section Offered

variable {s : State} {k : ReqKind} {l : Link} {high : List Sensor} {straps : Straps} {tag : Byte} {body : List Byte}

theorem exec_not_permitted (h : s.offers l k tag body) (hk : k.permitted l = false) :
    exec (k.command l high straps) s = .next (s.replied l .refused tag [1#8]) := by
  rw [exec_command, State.request_not_permitted _ h hk]

/-- A request its link may make and its judge refuses is refused with the judge's reason. -/
theorem exec_refused {x : Reason} (h : s.offers l k tag body) (hk : k.permitted l = true)
    (hj : k.judge high straps ⟨l, tag, body⟩ (s.take l) = .refuse x) :
    exec (k.command l high straps) s = .next (s.replied l .refused tag x.body) := by
  rw [exec_of_request h hk (exec_command ..), hj, Verdict.run_refuse_take]

end Offered

/-! ## Unknown kinds -/

/-- A code no kind has is no request's (R179). -/
theorem ReqKind.ofCode_eq_none {b : Byte} (h : ∀ k, ReqKind.code k ≠ b) : ReqKind.ofCode b = none := by
  simp [ReqKind.ofCode, h]

theorem exec_unknownKind {l : Link} {w : Held} {s : State} (h : s.waiting l = some w) (hk : ∀ k, ReqKind.code k ≠ w.kind) :
    exec (.unknownKind l) s = .next (s.replied l .refused w.tag [2#8]) := by
  show execUnknownKind l s = _
  simp only [execUnknownKind, h, ReqKind.ofCode_eq_none hk, if_true]
  exact congrArg Host.Outcome.next (State.answer_take ..)

/-! ## Body lengths -/

/-- The body length of a kind that has one (R12, R16, R96, R110 to R115, R122 to R134, R156 to R168). -/
def ReqKind.bodyLength : ReqKind → Option Nat
  | .settle | .resume | .recover | .survey | .reset | .clearCause | .mapOpen | .mapClose | .readTrack | .readLines => some 0
  | .closeStation | .openStation | .retire | .clearCarrier | .readSection | .readStation | .readCarrier => some 1
  | .endorse | .expedite | .taken | .cancel | .setMode | .admitCarrier | .mapRead => some 2
  | .query | .jog => some 3
  | .loaded | .short => some 4
  | .place | .mapWrite | .readLink => none

/-- A body of another length is refused BAD_FORMAT, whatever the state. -/
theorem ReqKind.judge_of_length_ne {k : ReqKind} {n : Nat} (hn : k.bodyLength = some n) {body : List Byte} (hb : body.length ≠ n)
    (high : List Sensor) (straps : Straps) (l : Link) (tag : Byte) (s : State) :
    k.judge high straps ⟨l, tag, body⟩ s = .refuse .badFormat := by
  cases k with
  | settle | resume | recover | survey | reset | clearCause | mapOpen | mapClose | readTrack | readLines =>
    cases hn
    rcases body with _ | ⟨a, rest⟩
    · exact absurd rfl hb
    · rfl
  | closeStation | openStation | retire | clearCarrier | readSection | readStation | readCarrier =>
    cases hn
    rcases body with _ | ⟨a, _ | ⟨b, rest⟩⟩
    · rfl
    · exact absurd rfl hb
    · rfl
  | endorse | expedite | taken | cancel | setMode | admitCarrier | mapRead =>
    cases hn
    rcases body with _ | ⟨a, _ | ⟨b, _ | ⟨c, rest⟩⟩⟩
    · rfl
    · rfl
    · exact absurd rfl hb
    · rfl
  | query | jog =>
    cases hn
    rcases body with _ | ⟨a, _ | ⟨b, _ | ⟨c, _ | ⟨d, rest⟩⟩⟩⟩
    · rfl
    · rfl
    · rfl
    · exact absurd rfl hb
    · rfl
  | loaded | short =>
    cases hn
    rcases body with _ | ⟨a, _ | ⟨b, _ | ⟨c, _ | ⟨d, _ | ⟨e, rest⟩⟩⟩⟩⟩
    · rfl
    · rfl
    · rfl
    · rfl
    · exact absurd rfl hb
    · rfl
  | place | mapWrite | readLink => cases hn

/-! ## Tickets and numbers -/

/-- A ticket no order has is refused NO_SUCH (R126). -/
theorem withOrder_none {s : State} {hi lo : Byte} (h : s.orderOf (hi.toNat * 256 + lo.toNat) = none) (f : Order → Verdict) :
    withOrder s hi lo f = .refuse .noSuch := by
  have h' : s.orderOf (word2 hi lo) = none := h
  simp [withOrder, h']

/-- What a request that names a ticket says beside it, out of its range (R129, R130, R139). -/
def ticketOutOfRange : ReqKind → List Byte → Prop
  | .query, [part] => 2 ≤ part.toNat
  | .loaded, [st, _] => st = 0#8 ∨ 13 ≤ st.toNat
  | .short, [st, mask] => st = 0#8 ∨ 13 ≤ st.toNat ∨ 16 ≤ mask.toNat
  | _, _ => False

/-- A station number outside 1..12 names none. -/
theorem stationOf_byte_eq_none {b : Byte} : stationOf b.toNat = none ↔ b = 0#8 ∨ 13 ≤ b.toNat := by
  rw [stationOf_eq_none, ← BitVec.toNat_inj]
  rfl

/-- Two bytes that follow a ticket. -/
theorem exists_pair_of_length : ∀ {bs : List Byte}, bs.length = 2 → ∃ a b, bs = [a, b]
  | [a, b], _ => ⟨a, b, rfl⟩

section Tickets

variable (high : List Sensor) (straps : Straps) (l : Link) (tag : Byte) (s : State)

/-- A request that names a ticket and says something out of its range beside it is refused BAD_VALUE. -/
theorem ReqKind.judge_of_outOfRange {k : ReqKind} {hi lo : Byte} {rest : List Byte} (hout : ticketOutOfRange k rest) :
    k.judge high straps ⟨l, tag, hi :: lo :: rest⟩ s = .refuse .badValue := by
  unfold ticketOutOfRange at hout
  split at hout
  · simp [ReqKind.judge, judgeQuery, hout]
  · simp [ReqKind.judge, judgeLoaded, stationOf_byte_eq_none.mpr hout]
  · simp only [ReqKind.judge, judgeShort]
    split
    · rfl
    · next hst =>
      have hmask := (or_assoc.mpr hout).resolve_left fun h => by rw [stationOf_byte_eq_none.mpr h] at hst; cases hst
      rw [if_pos hmask]
  · exact hout.elim

/-- One whose other numbers are in range is refused NO_SUCH where no order has the ticket (R126). -/
theorem ReqKind.judge_of_no_order {k : ReqKind} {hi lo : Byte} {rest : List Byte}
    (hk : k ∈ [ReqKind.endorse, .expedite, .taken, .cancel, .query, .loaded, .short])
    (hlen : k.bodyLength = some (hi :: lo :: rest).length) (hin : ¬ ticketOutOfRange k rest)
    (ho : s.orderOf (hi.toNat * 256 + lo.toNat) = none) :
    k.judge high straps ⟨l, tag, hi :: lo :: rest⟩ s = .refuse .noSuch := by
  have hrest : ∀ n, k.bodyLength = some (n + 2) → rest.length = n := fun n hn => by
    simpa using Option.some.inj (hlen.symm.trans hn)
  simp only [List.mem_cons, List.not_mem_nil, or_false] at hk
  rcases hk with rfl | rfl | rfl | rfl | rfl | rfl | rfl
  case inr.inr.inr.inr.inl =>
    obtain ⟨part, rfl⟩ := List.length_eq_one_iff.mp (hrest 1 rfl)
    have hpart : ¬ 2 ≤ part.toNat := hin
    exact (if_neg hpart).trans (withOrder_none ho _)
  case inr.inr.inr.inr.inr.inl =>
    obtain ⟨st, load, rfl⟩ := exists_pair_of_length (hrest 2 rfl)
    obtain ⟨i, hi⟩ := Option.ne_none_iff_exists'.mp fun h => hin (stationOf_byte_eq_none.mp h)
    simp only [ReqKind.judge, judgeLoaded, hi]
    exact withOrder_none ho _
  case inr.inr.inr.inr.inr.inr =>
    obtain ⟨st, mask, rfl⟩ := exists_pair_of_length (hrest 2 rfl)
    have hin' : ¬ ((st = 0#8 ∨ 13 ≤ st.toNat) ∨ 16 ≤ mask.toNat) := fun h => hin (or_assoc.mp h)
    obtain ⟨hst, hmask⟩ := not_or.mp hin'
    obtain ⟨i, hi⟩ := Option.ne_none_iff_exists'.mp fun h => hst (stationOf_byte_eq_none.mp h)
    simp only [ReqKind.judge, judgeShort, hi, if_neg hmask]
    exact withOrder_none ho _
  all_goals
    obtain rfl := List.length_eq_zero_iff.mp (hrest 0 rfl)
    exact withOrder_none ho _

/-- A carrier number above 15 is refused BAD_VALUE (6.5). -/
theorem ReqKind.judge_of_no_carrier {k : ReqKind} {b : Byte} (hk : k = .retire ∨ k = .clearCarrier ∨ k = .readCarrier)
    (hb : 16 ≤ b.toNat) : k.judge high straps ⟨l, tag, [b]⟩ s = .refuse .badValue := by
  have hc : carrierOf b.toNat = none := carrierOf_eq_none.mpr hb
  rcases hk with rfl | rfl | rfl
  · simp [ReqKind.judge, judgeRetire, withCarrier, hc]
  · simp [ReqKind.judge, judgeClearCarrier, withCarrier, hc]
  · simp [ReqKind.judge, judgeReadCarrier, hc]

end Tickets

/-- Settles O7, by what the judge of each kind makes of a body's length, its numbers and its ticket. -/
theorem linkUnitRefusals : Obligations.LinkUnitRefusals := by
  refine ⟨fun l w s => exec_unknownKind, fun k l high straps tag body s => exec_not_permitted, fun k => ?_, ?_⟩
  · cases k <;> simp [ReqKind.permitted]
  · intro k l high straps tag body s h hk length
    have hlength : length = k.bodyLength := rfl
    rw [hlength]
    refine ⟨fun n hn hb => exec_refused h hk (ReqKind.judge_of_length_ne hn hb ..), ?_, ?_⟩
    · rintro hmem hlen hi lo rest rfl outOfRange
      have hrange : outOfRange = ticketOutOfRange k rest := rfl
      rw [hrange]
      exact ⟨fun hout => exec_refused h hk (ReqKind.judge_of_outOfRange _ _ _ _ _ hout),
        fun hin ho => exec_refused h hk (ReqKind.judge_of_no_order _ _ _ _ _ hmem hlen hin ho)⟩
    · rintro b rfl hcarrier hb
      exact exec_refused h hk (ReqKind.judge_of_no_carrier _ _ _ _ _ hcarrier hb)

end Sys2Proof.Machine

/-! The millisecond event (R21, R27, R39, R159), and the tag port with its pending-read slots (R23 to R27). -/

namespace Sys2Proof.Machine

/-! ## The millisecond event -/

/-- A filter whose acceptance is not yet due counts the samples that differ from its accepted level (R21). -/
theorem Filter.sample_of_not_due {f : Filter} (hf : f.due = false) (time : Nat) (level : Bool) :
    f.sample time level =
      if level = f.accepted then { f with hold := 0 }
      else ⟨f.accepted, min (f.hold + 1) 16, decide (time < f.hold + 1)⟩ := by
  simp [Filter.sample, hf]

@[simp] theorem LineUnit.millisecond_filter (u : LineUnit) (time : Nat) (pins : Vector Bool 57) (i : Fin 57) :
    tget (u.millisecond time pins).filters i = (tget u.filters i).sample time (tget pins i) := Vector.getElem_ofFn i.isLt

@[simp] theorem LineUnit.millisecond_slot (u : LineUnit) (time : Nat) (pins : Vector Bool 57) (r : ReaderId) :
    tget (u.millisecond time pins).slots r = (tget u.slots r).tick := Vector.getElem_ofFn r.isLt

/-- Below its limit the warm-up count goes up by one (R159). -/
theorem TrackControl.warm_of_lt {t : TrackControl} (hmode : t.mode = .warmup) (h : t.warmCount < 50 * t.warmW) :
    t.warm = { t with warmCount := t.warmCount + 1 } := by
  have hmin : min (t.warmCount + 1) (max t.warmCount (50 * t.warmW)) = t.warmCount + 1 := by omega
  simp [TrackControl.warm, hmode, hmin]

/-- Settles O45, unit by unit: the filters, the slots, the time base and the warm-up. -/
theorem millisecondEvent : Obligations.MillisecondEvent := by
  intro high s
  refine ⟨_, rfl, rfl, rfl, fun i hi => ?_, fun r => ?_, fun hms => ?_, fun hms => ?_, fun hmode => ?_, TrackControl.warm_of_lt⟩
  · exact (LineUnit.millisecond_filter ..).trans (Filter.sample_of_not_due hi ..)
  · refine (LineUnit.millisecond_slot ..).trans ?_
    cases tget s.line.slots r <;> rfl
  · exact if_neg (by omega)
  · exact if_pos (Nat.le_of_eq hms.symm)
  · exact if_neg hmode

/-! ## Characters on the tag port -/

section TagPort

variable {s : State}

/-- A report half taken and then completed or discarded leaves the port as it was. -/
theorem State.setTagHalf_none (hhalf : s.line.tagHalf = none) (x : Option Byte) : (s.setTagHalf x).setTagHalf none = s := by
  unfold State.setTagHalf
  rw [← hhalf]

/-- The first character of a report waits for the second (R23). -/
theorem State.tagChar_first (hbreak : s.line.tagBreak = false) (hhalf : s.line.tagHalf = none) (b : Byte) :
    s.tagChar b = s.setTagHalf (some b) := by
  simp [State.tagChar, hbreak, hhalf]

/-- The second character completes the report (R23, R24). -/
theorem State.tagChars_report (hbreak : s.line.tagBreak = false) (hhalf : s.line.tagHalf = none) (reader id : Byte) :
    s.tagChars [reader, id] = s.takeReport reader id := by
  have hsecond : (s.setTagHalf (some reader)).tagChar id = ((s.setTagHalf (some reader)).setTagHalf none).takeReport reader id :=
    if_neg (Bool.eq_false_iff.mp hbreak)
  rw [State.setTagHalf_none hhalf] at hsecond
  simpa [State.tagChars, State.tagChar_first hbreak hhalf] using hsecond

/-- Half a report is discarded with a stray-read count (R23). -/
theorem State.tagChars_half_discarded (hbreak : s.line.tagBreak = false) (hhalf : s.line.tagHalf = none) (b : Byte) :
    (s.tagChars [b]).discardHalf = s.countStrayRead := by
  have hdiscard : (s.setTagHalf (some b)).discardHalf = ((s.setTagHalf (some b)).setTagHalf none).countStrayRead := rfl
  simpa [State.tagChars, State.tagChar_first hbreak hhalf, State.setTagHalf_none hhalf] using hdiscard

/-- Without half a report there is nothing to discard. -/
theorem State.discardHalf_of_none (hhalf : s.line.tagHalf = none) : s.discardHalf = s := by
  simp [State.discardHalf, hhalf]

/-- In a break no character is taken (R23). -/
theorem State.tagChars_of_break (hbreak : s.line.tagBreak = true) (chars : List Byte) : s.tagChars chars = s := by
  unfold State.tagChars
  induction chars with
  | nil => rfl
  | cons b bs ih => simpa [State.tagChar, hbreak] using ih

/-! ## The checks of a report -/

/-- A reader number above 43 discards the report (R24). -/
theorem State.takeReport_of_no_reader {reader : Byte} (h : 44 ≤ reader.toNat) (id : Byte) :
    s.takeReport reader id = s.countStrayRead := dif_neg (by omega)

section Reader

variable {reader id : Byte} {r : ReaderId} (hr : reader.toNat = r.val)
include hr

/-- A report of a reader whose sensor is not in use is discarded (R24). -/
theorem State.takeReport_of_not_inUse (hx : s.inUse (sensorOfReader r) = false) : s.takeReport reader id = s.countStrayRead := by
  simp [State.takeReport, hr, hx]

/-- An id 0..15 is a read of that carrier (R24). -/
theorem State.takeReport_of_carrier (hx : s.inUse (sensorOfReader r) = true) {c : CarrierId} (hid : id.toNat = c.val) :
    s.takeReport reader id = s.offerReport r (some c) := by
  simp [State.takeReport, hr, hx, carrierOf_eq_some.mpr hid]

/-- The id FFh is a report of no read (R24). -/
theorem State.takeReport_of_no_read (hx : s.inUse (sensorOfReader r) = true) (hid : id = 0xFF#8) :
    s.takeReport reader id = s.offerReport r none := by
  have hnone : carrierOf 255 = none := rfl
  simp [State.takeReport, hr, hx, hid, hnone]

/-- Any other id is a report of no read with a stray-read count (R24). -/
theorem State.takeReport_of_unknown_id (hx : s.inUse (sensorOfReader r) = true) (hid : 16 ≤ id.toNat) (hne : id ≠ 0xFF#8) :
    s.takeReport reader id = s.countStrayRead.offerReport r none := by
  have hnone : carrierOf id.toNat = none := carrierOf_eq_none.mpr hid
  simp [State.takeReport, hr, hx, hnone, hne]

end Reader

/-! ## Reports and slots -/

section Offer

variable {r : ReaderId}

theorem State.offerReport_leadWaiting {w : Nat} (h : tget s.line.slots r = .leadWaiting w) (read : Option CarrierId) :
    s.offerReport r read = (s.setSlot r .empty).deliverRead (sensorOfReader r) read := by
  simp [State.offerReport, h]

theorem State.offerReport_empty (h : tget s.line.slots r = .empty) (read : Option CarrierId) :
    s.offerReport r read = s.setSlot r (.reportWaiting read 40) := by
  simp [State.offerReport, h, Config.tagWindow]

theorem State.offerReport_reportWaiting {x : Option CarrierId} {w : Nat} (h : tget s.line.slots r = .reportWaiting x w)
    (read : Option CarrierId) : s.offerReport r read = (s.setSlot r (.reportWaiting read 40)).countStrayRead := by
  simp [State.offerReport, h, Config.tagWindow]

end Offer

end TagPort

theorem sensorOfReader_ne_driveReady (r : ReaderId) : sensorOfReader r ≠ .driveReady := by
  unfold sensorOfReader
  split <;> simp

/-- Settles O51, by the checks of the report and then the state of its slot. -/
theorem reportsMeetSlots : Obligations.ReportsMeetSlots := by
  intro reader id s hbreak hhalf
  have hexec : exec (.tagReport [reader, id]) s = .next (s.takeReport reader id) :=
    congrArg Host.Outcome.next (State.tagChars_report hbreak hhalf reader id)
  refine ⟨fun h => hexec.trans (congrArg _ (State.takeReport_of_no_reader h id)), fun r hr =>
    ⟨fun hx => hexec.trans (congrArg _ (State.takeReport_of_not_inUse hr hx)), fun hx read u hread => ?_⟩⟩
  obtain ⟨hoffer, hslots⟩ : s.takeReport reader id = u.offerReport r read ∧ u.line.slots = s.line.slots := by
    rcases hread with ⟨c, hid, rfl, rfl⟩ | ⟨hid, rfl, rfl⟩ | ⟨hid, hne, rfl, rfl⟩
    · exact ⟨State.takeReport_of_carrier hr hx hid, rfl⟩
    · exact ⟨State.takeReport_of_no_read hr hx hid, rfl⟩
    · exact ⟨State.takeReport_of_unknown_id hr hx hid hne, rfl⟩
  rw [hexec, hoffer, ← hslots]
  refine ⟨fun hmap t ht => State.deliverRead_of_not_delivers read
      (State.not_delivers (sensorOfReader_ne_driveReady r) (.inl (by rwa [ht]))), fun w hslot => ?_, fun hslot => ?_,
    fun x w hslot => ?_⟩
  · rw [State.offerReport_leadWaiting hslot]
    rfl
  · rw [State.offerReport_empty hslot]
    rfl
  · rw [State.offerReport_reportWaiting hslot]
    rfl

/-! ## Windows that run out, and a LEAD with its slot -/

section Slots

variable {s : State} {x : Sensor} {r : ReaderId}

/-- A LEAD whose window has run out gets NO_READ (R27). -/
theorem execReadWindowExpiry_leadWaiting (h : tget s.line.slots r = .leadWaiting 0) :
    execReadWindowExpiry r s = .next ((s.setSlot r .empty).deliverRead (sensorOfReader r) none) := by
  simp [execReadWindowExpiry, h]

/-- A report whose window has run out is discarded with a stray-read count (R27). -/
theorem execReadWindowExpiry_reportWaiting {read : Option CarrierId} (h : tget s.line.slots r = .reportWaiting read 0) :
    execReadWindowExpiry r s = .next (s.setSlot r .empty).countStrayRead := by
  simp [execReadWindowExpiry, h]

/-- The accepted level of an inactive sensor with a reader is a LEAD, which meets the sensor's slot (R21, R22, R25). -/
theorem exec_levelAccepted_lead (hr : readerOf x = some r) (hdue : (s.filter x).due = true) (hact : s.active x = false) :
    exec (.sensorLevelAccepted x) s = .next ((s.accepted x).leadWithSlot x r) := by
  have haccept : s.acceptLevel x =
      if (s.accepted x).active x then (s.accepted x).lead x else (s.accepted x).deliverTrail x := rfl
  show execSensorLevelAccepted x s = _
  simp [execSensorLevelAccepted, hdue, haccept, hact, State.lead, hr]

theorem State.leadWithSlot_empty (h : tget s.line.slots r = .empty) :
    s.leadWithSlot x r = (s.setSlot r (.leadWaiting 40)).deliverLead x := by
  simp [State.leadWithSlot, h, Config.tagWindow]

theorem State.leadWithSlot_leadWaiting {w : Nat} (h : tget s.line.slots r = .leadWaiting w) :
    s.leadWithSlot x r = ((s.setSlot r (.leadWaiting 40)).deliverRead x none).deliverLead x := by
  simp [State.leadWithSlot, h, Config.tagWindow]

theorem State.leadWithSlot_reportWaiting {read : Option CarrierId} {w : Nat} (h : tget s.line.slots r = .reportWaiting read w) :
    s.leadWithSlot x r = ((s.setSlot r .empty).deliverLead x).deliverRead x read := by
  simp [State.leadWithSlot, h]

theorem ne_driveReady_of_readerOf (hr : readerOf x = some r) : x ≠ .driveReady := by
  rintro rfl
  cases hr

end Slots

/-- Settles O52: the half report, the break, the window, and the LEAD by the state of its slot. -/
theorem tagPortFailures : Obligations.TagPortFailures := by
  intro s
  refine ⟨fun b hbreak hhalf => ?_, fun hbreak chars => ?_, rfl, fun r => ⟨execReadWindowExpiry_leadWaiting, fun _ =>
    execReadWindowExpiry_reportWaiting⟩, fun x r hr => ⟨fun hdue hact => ?_, fun hdrop => ?_⟩⟩
  · have hdiscard : (s.tagChars [b]).discardHalf = s.countStrayRead := State.tagChars_half_discarded hbreak hhalf b
    refine ⟨congrArg _ hdiscard, congrArg _ hdiscard, ?_, congrArg _ (State.discardHalf_of_none hhalf)⟩
    show execTagPortBreak [b] s = _
    simp only [execTagPortBreak, hdiscard]
    rfl
  · exact congrArg _ (State.tagChars_of_break hbreak chars)
  · have hlead := exec_levelAccepted_lead hr hdue hact
    exact ⟨fun h => hlead.trans (congrArg _ (State.leadWithSlot_empty h)),
      fun _ h => hlead.trans (congrArg _ (State.leadWithSlot_leadWaiting h)),
      fun _ _ h => hlead.trans (congrArg _ (State.leadWithSlot_reportWaiting h))⟩
  · have hnot : s.delivers x = false := State.not_delivers (ne_driveReady_of_readerOf hr) hdrop
    exact ⟨State.deliverLead_of_not_delivers hnot, fun read => State.deliverRead_of_not_delivers read hnot⟩

end Sys2Proof.Machine

/-! The reads of the records (R34, R75, R97, R115, R184): packed flags, logical states, and the bodies of the answers. -/

namespace Sys2Proof.Machine

/-! ## Packed flags -/

/-- The number a byte of flags stands for has each flag as its bit, the first as the least significant (R34). -/
theorem testBit_packed (bs : List Bool) (n : Nat) :
    (bs.foldr (fun (b : Bool) n => (if b then 1 else 0) + 2 * n) 0).testBit n = bs.getD n false := by
  induction bs generalizing n with
  | nil => simp
  | cons b bs ih =>
    have hhalf : ∀ m : Nat, ((if b then 1 else 0) + 2 * m) / 2 = m := fun m => by cases b <;> simp <;> omega
    have hodd : ∀ m : Nat, ((if b then 1 else 0) + 2 * m) % 2 = if b then 1 else 0 := fun m => by cases b <;> simp <;> omega
    rw [List.foldr_cons]
    cases n with
    | zero =>
      rw [Nat.testBit_zero, hodd]
      cases b <;> rfl
    | succ n => rw [Nat.testBit_succ, hhalf, ih, List.getD_cons_succ]

theorem packByte_getLsbD (bs : List Bool) {n : Nat} (hn : n < 8) : (packByte bs).getLsbD n = bs.getD n false := by
  simp only [packByte, byte1, BitVec.getLsbD_ofNat, hn, decide_true, Bool.true_and, testBit_packed]

@[simp] theorem packBits_length (m : Nat) (bs : List Bool) : (packBits m bs).length = m := by
  induction m generalizing bs with
  | zero => rfl
  | succ m ih => simp [packBits, ih]

/-- The n-th flag of the bytes from `first` on (R34). -/
def flagAt (bytes : List Byte) (first n : Nat) : Bool := (bytes.getD (first + n / 8) 0#8).getLsbD (n % 8)

/-- Flags packed in bytes at the front are read back; past the last flag there is none. -/
theorem flagAt_packBits {m n : Nat} (bs : List Bool) (rest : List Byte) (hn : n < 8 * m) :
    flagAt (packBits m bs ++ rest) 0 n = bs.getD n false := by
  induction m generalizing bs n with
  | zero => omega
  | succ m ih =>
    by_cases h8 : n < 8
    · have hdiv : n / 8 = 0 := by omega
      have hmod : n % 8 = n := by omega
      have hbyte : flagAt (packBits (m + 1) bs ++ rest) 0 n = (packByte (bs.take 8)).getLsbD n := by
        simp only [flagAt, hdiv, hmod]
        rfl
      rw [hbyte, packByte_getLsbD _ h8]
      simp [h8]
    · obtain ⟨k, rfl⟩ : ∃ k, n = 8 + k := ⟨n - 8, by omega⟩
      have hdiv : (8 + k) / 8 = k / 8 + 1 := by omega
      have hmod : (8 + k) % 8 = k % 8 := by omega
      have hk := ih (bs.drop 8) (n := k) (by omega)
      simpa [flagAt, packBits, hdiv, hmod] using hk

/-- Packed flags at the front are passed over. -/
theorem flagAt_append {m first : Nat} (bs : List Bool) (rest : List Byte) (n : Nat) (h : m ≤ first) :
    flagAt (packBits m bs ++ rest) first n = flagAt rest (first - m) n := by
  have hlen : (packBits m bs).length ≤ first + n / 8 := by simp; omega
  have hsub : first + n / 8 - m = first - m + n / 8 := by omega
  simp [flagAt, List.getElem?_append_right hlen, hsub]

/-! ## READ_LINES -/

/-- The flags of a table's entries, in the order of its numbers, are read back. -/
theorem getD_map_finRange {n : Nat} (f : Fin n → Bool) (rest : List Bool) (k : Fin n) :
    ((List.finRange n).map f ++ rest).getD k.val false = f k := by
  simp [List.getElem?_append_left]

theorem getD_after_map_finRange {n m : Nat} (f : Fin n → Bool) (rest : List Bool) (h : n ≤ m) :
    ((List.finRange n).map f ++ rest).getD m false = rest.getD (m - n) false := by
  simp [List.getElem?_append_right, h]

theorem toList_eq_map_tget {α : Type} {n : Nat} (v : Vector α n) : v.toList = (List.finRange n).map (tget v) := by
  apply List.ext_getElem <;> simp [tget]

/-- The groups of READ_LINES, each at its bytes (R34). -/
theorem State.lineBytes_groups (s : State) :
    (∀ n < 32, flagAt s.lineBytes 0 n = ((List.finRange 32).map (fun k => s.active (.entry k)) ++ []).getD n false ∧
      flagAt s.lineBytes 8 n = ((List.finRange 32).map (tget s.line.latches.d) ++ []).getD n false) ∧
    ∀ n < 16,
      flagAt s.lineBytes 4 n =
        ((List.finRange 12).map (fun i => s.active (.spurEntry i)) ++ [s.active .driveReady]).getD n false ∧
      flagAt s.lineBytes 6 n = ((List.finRange 12).map (fun i => s.active (.dock i)) ++ []).getD n false ∧
      flagAt s.lineBytes 12 n = ((List.finRange 12).map (tget s.line.latches.q) ++ [s.line.latches.driveOn]).getD n false ∧
      flagAt s.lineBytes 14 n = ((List.finRange 12).map (tget s.line.latches.v) ++ []).getD n false ∧
      flagAt s.lineBytes 16 n = ((List.finRange 12).map (tget s.line.latches.g) ++ []).getD n false := by
  constructor
  all_goals
    intro n hn
    simp only [State.lineBytes, List.append_assoc, flagAt_append, flagAt_packBits, hn, toList_eq_map_tget, List.append_nil,
      allSections, allStations, Nat.reduceLeDiff, Nat.reduceSub, Nat.reduceMul, and_self, Nat.le_refl]

/-- The flags of a section (R34). -/
theorem State.lineBytes_section (s : State) (k : SectionId) :
    flagAt s.lineBytes 0 k.val = s.active (.entry k) ∧ flagAt s.lineBytes 8 k.val = tget s.line.latches.d k := by
  obtain ⟨hentry, hd⟩ := s.lineBytes_groups.1 k.val k.isLt
  exact ⟨hentry.trans (getD_map_finRange ..), hd.trans (getD_map_finRange ..)⟩

/-- The flags of a station (R34). -/
theorem State.lineBytes_station (s : State) (i : StationId) :
    flagAt s.lineBytes 4 i.val = s.active (.spurEntry i) ∧ flagAt s.lineBytes 6 i.val = s.active (.dock i) ∧
      flagAt s.lineBytes 12 i.val = tget s.line.latches.q i ∧ flagAt s.lineBytes 14 i.val = tget s.line.latches.v i ∧
      flagAt s.lineBytes 16 i.val = tget s.line.latches.g i := by
  obtain ⟨hspur, hdock, hq, hv, hg⟩ := s.lineBytes_groups.2 i.val (by omega)
  exact ⟨hspur.trans (getD_map_finRange ..), hdock.trans (getD_map_finRange ..), hq.trans (getD_map_finRange ..),
    hv.trans (getD_map_finRange ..), hg.trans (getD_map_finRange ..)⟩

/-- The flags after the twelve stations': DRIVE_READY, DRIVE_ON, and none where there is no thirteenth (R34). -/
theorem State.lineBytes_thirteenth (s : State) :
    flagAt s.lineBytes 4 12 = s.active .driveReady ∧ flagAt s.lineBytes 12 12 = s.line.latches.driveOn ∧
      ∀ first ∈ [6, 14, 16], flagAt s.lineBytes first 12 = false := by
  obtain ⟨hspur, hdock, hq, hv, hg⟩ := s.lineBytes_groups.2 12 (by decide)
  rw [getD_after_map_finRange _ _ (Nat.le_refl 12)] at hspur hdock hq hv hg
  exact ⟨hspur, hq, by simp [hdock, hv, hg]⟩

/-- The last three flags of every group of two bytes are 0 (R34). -/
theorem State.lineBytes_unused (s : State) {n : Nat} (hn : 13 ≤ n) (hlt : n < 16) :
    ∀ first ∈ [4, 6, 12, 14, 16], flagAt s.lineBytes first n = false := by
  obtain ⟨hspur, hdock, hq, hv, hg⟩ := s.lineBytes_groups.2 n hlt
  have hpast : n - 12 ≠ 0 := by omega
  rw [getD_after_map_finRange _ _ (by omega)] at hspur hdock hq hv hg
  simp [hspur, hdock, hq, hv, hg, hpast]

/-- The stray-read count stands in the last of the 19 bytes (R34). -/
theorem State.lineBytes_stray (s : State) :
    s.lineBytes.length = 19 ∧ s.lineBytes.getD 18 0#8 = BitVec.ofNat 8 s.line.stray := by
  constructor
  · simp [State.lineBytes]
  · simp [State.lineBytes, byte1]

theorem exec_readLines {tag : Byte} {s : State} (h : s.offers .service .readLines tag []) :
    exec (.readLines .service) s =
      .next { (s.replied .service .done tag s.lineBytes) with line := { s.line with stray := 0 } } := by
  have hdone : (s.take .service).clearStrayReads.done ⟨.service, tag, []⟩ s.lineBytes =
      { (s.replied .service .done tag s.lineBytes) with line := { s.line with stray := 0 } } := by
    rw [← State.done_take s .service tag []]
    rfl
  rw [exec_of_request h rfl rfl, ← hdone]
  rfl

/-! ## Logical states -/

/-- A polarity is active low where the item is set and makes it so, and active high otherwise (R22). -/
theorem polarity_of_item {α : Type} (item : Option α) (pol : α → Polarity) :
    (item.map pol).getD .activeHigh = .activeLow ↔ ∃ x, item = some x ∧ pol x = .activeLow := by
  cases item <;> simp

/-- A sensor is active at the accepted level its polarity names (R22). -/
theorem State.active_of_polarity (s : State) (x : Sensor) {low : Prop} (h : s.map.polarity x = .activeLow ↔ low) :
    (low → s.active x = !(s.filter x).accepted) ∧ (¬ low → s.active x = (s.filter x).accepted) := by
  rw [← h]
  cases hp : s.map.polarity x <;> simp [State.active, hp, Polarity.active]

/-! ## READ_SECTION, READ_STATION and READ_CARRIER -/

/-- Every link may read a section, a carrier and its own counts (R180). -/
theorem ReqKind.permitted_on_every_link {k : ReqKind} (hk : k = .readSection ∨ k = .readCarrier ∨ k = .readLink) (l : Link) :
    k.permitted l = true := by
  rcases hk with rfl | rfl | rfl <;> cases l <;> rfl

theorem ReqKind.readStation_permitted {l : Link} (hl : l ≠ .counter) : ReqKind.readStation.permitted l = true := by
  cases l with
  | counter => exact absurd rfl hl
  | stock | service => rfl

section Records

variable {l : Link} {tag b : Byte} {s : State}

theorem exec_readSection (h : s.offers l .readSection tag [b]) {k : SectionId} (hb : b.toNat = k.val) :
    exec (.readSection l) s = .next { (s.replied l .done tag (s.sectionBytes k)) with
      secs := { s.secs with strayEdges := if l = .service then 0 else s.secs.strayEdges } } := by
  rw [exec_of_request h (ReqKind.permitted_on_every_link (.inl rfl) l) rfl, ← State.done_take s l tag [b]]
  simp only [judgeReadSection, sectionOf_eq_some.mpr hb, Verdict.run_accept]
  cases l <;> rfl

theorem exec_readSection_no_section (h : s.offers l .readSection tag [b]) (hb : 32 ≤ b.toNat) :
    exec (.readSection l) s = .next (s.replied l .refused tag [3#8]) :=
  exec_refused (k := .readSection) (x := .badValue) (high := []) (straps := ⟨0, 0⟩) h
    (ReqKind.permitted_on_every_link (.inl rfl) l) (by simp [ReqKind.judge, judgeReadSection, sectionOf_eq_none.mpr hb])

theorem exec_readStation (h : s.offers l .readStation tag [b]) (hl : l ≠ .counter) {i : StationId} (hb : b.toNat = i.val + 1) :
    exec (.readStation l) s = .next (s.replied l .done tag ((s.stn i).bytes i)) := by
  rw [exec_of_request h (ReqKind.readStation_permitted hl) rfl]
  simp [judgeReadStation, stationOf_eq_some.mpr hb]

theorem exec_readStation_no_station (h : s.offers l .readStation tag [b]) (hl : l ≠ .counter)
    (hb : b.toNat = 0 ∨ 13 ≤ b.toNat) : exec (.readStation l) s = .next (s.replied l .refused tag [3#8]) :=
  exec_refused (k := .readStation) (x := .badValue) (high := []) (straps := ⟨0, 0⟩) h
    (ReqKind.readStation_permitted hl) (by simp [ReqKind.judge, judgeReadStation, stationOf_eq_none.mpr hb])

theorem exec_readCarrier (h : s.offers l .readCarrier tag [b]) {c : CarrierId} (hb : b.toNat = c.val) :
    exec (.readCarrier l) s = .next (s.replied l .done tag ((s.car c).bytes c)) := by
  rw [exec_of_request h (ReqKind.permitted_on_every_link (.inr (.inl rfl)) l) rfl]
  simp [judgeReadCarrier, carrierOf_eq_some.mpr hb]

theorem exec_readCarrier_no_carrier (h : s.offers l .readCarrier tag [b]) (hb : 16 ≤ b.toNat) :
    exec (.readCarrier l) s = .next (s.replied l .refused tag [3#8]) :=
  exec_refused (k := .readCarrier) (high := []) (straps := ⟨0, 0⟩) h (ReqKind.permitted_on_every_link (.inr (.inl rfl)) l)
    (ReqKind.judge_of_no_carrier _ _ _ _ _ (.inr (.inr rfl)) hb)

end Records

/-! ## READ_LINK -/

/-- What a change of one link unit keeps is the same of every link unit. -/
theorem State.link_modLink_keeps {α : Type} (p : LinkUnit → α) {f : LinkUnit → LinkUnit} (hp : ∀ u, p (f u) = p u) (s : State)
    (l m : Link) : p ((s.modLink l f).link m) = p (s.link m) := by
  by_cases h : l = m
  · subst h
    rw [State.link_modLink, hp]
  · exact congrArg p (Links.get_set_ne _ _ h)

/-- Taking a request changes the request places alone (R179). -/
theorem State.link_take_keeps {α : Type} (p : LinkUnit → α) (hp : ∀ u held, p { u with held := held } = p u) (s : State)
    (l m : Link) : p ((s.take l).link m) = p (s.link m) :=
  State.link_modLink_keeps p (f := fun u => { u with held := takeFirst u.held }) (fun u => hp u _) s l m

/-- An answer changes the transmit queue alone (R182). -/
theorem State.link_done_keeps {α : Type} (p : LinkUnit → α) (hp : ∀ u tx, p { u with tx := tx } = p u) (s : State) (r : Req)
    (body : List Byte) (m : Link) : p ((s.done r body).link m) = p (s.link m) :=
  State.link_modLink_keeps p (f := fun u => { u with tx := u.tx ++ [⟨.answer .done, r.tag, body⟩] }) (fun u => hp u _) s r.link m

theorem linkOfCode_code (m : Link) : linkOfCode (BitVec.ofNat 8 (Link.code m)).toNat = some m := by cases m <;> rfl

theorem linkOfCode_eq_none {n : Nat} (h : 3 ≤ n) : linkOfCode n = none := by
  unfold linkOfCode
  split <;> first | omega | rfl

section ReadLink

variable {l m : Link} {tag : Byte} {body : List Byte} {s : State}

/-- A READ_LINK of a link it may read, its own by default, is accepted (R184). -/
theorem judgeReadLink_accept (hbody : body = [] ∧ m = l ∨ body = [BitVec.ofNat 8 (Link.code m)]) (hl : l = .service ∨ l = m) :
    judgeReadLink ⟨l, tag, body⟩ s = .accept (s.readLink ⟨l, tag, body⟩ m) := by
  rcases hbody with ⟨rfl, rfl⟩ | rfl
  · rfl
  · simp only [judgeReadLink, linkOfCode_code, if_pos hl]

/-- Only the service link may read another link's counts (R184). -/
theorem judgeReadLink_not_permitted (hl : l ≠ .service) (hm : l ≠ m) :
    judgeReadLink ⟨l, tag, [BitVec.ofNat 8 (Link.code m)]⟩ s = .refuse .notPermitted := by
  simp only [judgeReadLink, linkOfCode_code, hl, hm, or_self, if_false]

theorem judgeReadLink_no_link {b : Byte} (hb : 3 ≤ b.toNat) : judgeReadLink ⟨l, tag, [b]⟩ s = .refuse .badValue := by
  simp [judgeReadLink, linkOfCode_eq_none hb]

theorem judgeReadLink_long (hbody : 2 ≤ body.length) : judgeReadLink ⟨l, tag, body⟩ s = .refuse .badFormat := by
  match body, hbody with
  | _ :: _ :: _, _ => rfl

theorem exec_readLink_refused {x : Reason} (h : s.offers l .readLink tag body)
    (hj : judgeReadLink ⟨l, tag, body⟩ (s.take l) = .refuse x) : exec (.readLink l) s = .next (s.replied l .refused tag x.body) :=
  exec_refused (k := .readLink) (high := []) (straps := ⟨0, 0⟩) h (ReqKind.permitted_on_every_link (.inr (.inr rfl)) l) hj

/-- The counts of the link named are answered and cleared; nothing else of a link changes but the answering link's queue (R184). -/
theorem State.readLink_take (s : State) (l m : Link) (tag : Byte) (body : List Byte) :
    let t := (s.take l).readLink ⟨l, tag, body⟩ m
    (t.link l).tx = (s.link l).tx ++ [⟨.answer .done, tag, readLinkBody m (s.link m).counts⟩] ∧
      (t.link m).counts = LinkCounts.zero ∧ ∀ n, n ≠ m → (t.link n).counts = (s.link n).counts := by
  have htaken : ∀ n, ((s.take l).link n).counts = (s.link n).counts := State.link_take_keeps LinkUnit.counts (fun _ _ => rfl) s l
  have hanswer := fun t : State => t.link_done_keeps LinkUnit.counts (fun _ _ => rfl) ⟨l, tag, body⟩
  simp only [State.readLink, htaken]
  refine ⟨?_, ?_, fun n hn => ?_⟩
  · have hqueue : ∀ t : State, ((t.modLink m fun u => { u with counts := LinkCounts.zero }).link l).tx = (t.link l).tx := fun t =>
      State.link_modLink_keeps LinkUnit.tx (f := fun u => { u with counts := LinkCounts.zero }) (fun _ => rfl) t m l
    have hq := (hqueue (s.take l)).trans (State.link_take_keeps LinkUnit.tx (fun _ _ => rfl) s l l)
    rw [← hq]
    exact congrArg LinkUnit.tx (State.answer_link ..)
  · rw [hanswer, State.link_modLink]
  · rw [hanswer, ← htaken n]
    exact congrArg LinkUnit.counts (Links.get_set_ne _ _ hn.symm)

end ReadLink

/-- Settles O44, record by record. -/
theorem recordsAreRead : Obligations.RecordsAreRead := by
  refine ⟨fun l tag b s => ⟨fun h => ⟨fun k hb => ?_, exec_readSection_no_section h⟩, fun hl h => ⟨fun i hb => ?_,
    exec_readStation_no_station h hl⟩, fun h => ⟨fun c hb => ?_, exec_readCarrier_no_carrier h⟩⟩, fun s => ?_, fun l tag s =>
    ⟨?_, fun body h => ⟨fun m hbody hl => ?_, ?_, ?_, fun hbody =>
      exec_readLink_refused h (judgeReadLink_long hbody)⟩⟩⟩
  · rw [exec_readSection h hb]
    refine congrArg (fun bytes => Host.Outcome.next { (s.replied l .done tag bytes) with
      secs := { s.secs with strayEdges := if l = Link.service then 0 else s.secs.strayEdges } }) ?_
    simp only [State.sectionBytes, List.cons.injEq, and_true]
    refine ⟨rfl, ?_, ?_, ?_, rfl, ?_, ?_, ?_, rfl, rfl, ?_, rfl⟩
    · cases (s.sec k).st <;> rfl
    · cases (s.sec k).st <;> rfl
    · cases (s.sec k).st with
      | reserved c w => cases w <;> rfl
      | free | occupied | trailing => rfl
    · cases (s.sec k).spurPlace <;> rfl
    · cases (s.sec k).loopClaim <;> rfl
    · cases (s.sec k).mergeClaim <;> rfl
    · unfold StopMap.admissionLimit
      cases s.map.loop <;> rfl
  · rw [exec_readStation h hl hb]
    refine congrArg (fun bytes => Host.Outcome.next (s.replied l .done tag (bytes ++ _))) ?_
    simp only [List.cons.injEq, and_true]
    refine ⟨byte1_of_toNat_eq hb, ?_, ?_, ?_, ?_, ?_, rfl, rfl, ?_, rfl, rfl, rfl⟩
    · cases (s.stn i).kind with
      | none => rfl
      | some kd => cases kd <;> rfl
    · cases (s.stn i).dock <;> rfl
    · cases (s.stn i).dock <;> rfl
    · cases (s.stn i).movingUp <;> rfl
    · cases (s.stn i).launchPending <;> rfl
    · cases (s.stn i).entryPending <;> rfl
  · rw [exec_readCarrier h hb]
    refine congrArg (fun bytes => Host.Outcome.next (s.replied l .done tag bytes)) ?_
    simp only [CarrierRec.bytes, List.cons_append, List.nil_append, List.append_assoc, List.append_cancel_left_eq,
      List.cons.injEq, and_true, true_and]
    refine ⟨byte1_of_toNat_eq hb, ?_, ?_, ?_, ?_, rfl, ?_⟩
    · cases (s.car c).state <;> rfl
    · cases (s.car c).place <;> rfl
    · cases (s.car c).place <;> rfl
    · cases (s.car c).dest <;> rfl
    · cases (s.car c).passage.stretch <;> cases (s.car c).passage.watch <;> rfl
  · exact ⟨fun k => s.active_of_polarity _ (polarity_of_item _ _), fun i => s.active_of_polarity _ (polarity_of_item _ _),
      fun i => s.active_of_polarity _ (polarity_of_item _ _), s.active_of_polarity _ (by simp [StopMap.polarity])⟩
  · rintro rfl h
    obtain ⟨hlength, hstray⟩ := s.lineBytes_stray
    obtain ⟨hready, hdriveOn, hnone⟩ := s.lineBytes_thirteenth
    exact ⟨s.lineBytes, exec_readLines h, hlength, s.lineBytes_section, s.lineBytes_station, hready, hdriveOn, hnone,
      fun first hfirst => ⟨s.lineBytes_unused (by decide) (by decide) first hfirst,
        s.lineBytes_unused (by decide) (by decide) first hfirst, s.lineBytes_unused (by decide) (by decide) first hfirst⟩, hstray⟩
  · rw [exec_of_request h (ReqKind.permitted_on_every_link (.inr (.inr rfl)) l) rfl, judgeReadLink_accept hbody hl,
      Verdict.run_accept]
    obtain ⟨htx, hzero, hkept⟩ := s.readLink_take l m tag body
    exact ⟨_, rfl, htx, hzero, hkept, rfl⟩
  · rintro m rfl hl hm
    exact exec_readLink_refused h (judgeReadLink_not_permitted hl hm)
  · rintro b rfl hb
    exact exec_readLink_refused h (judgeReadLink_no_link hb)

end Sys2Proof.Machine

/-! CLOSE_STATION and OPEN_STATION (R96). -/

namespace Sys2Proof.Machine

/-! ## The station a request names -/

section Stock

variable {s : State} {l : Link} {tag b : Byte}

theorem judgeCloseStation_of_stock {i : StationId} (hb : b.toNat = i.val + 1) (hi : s.map.kindOf i = some .stock) :
    judgeCloseStation ⟨l, tag, [b]⟩ s = .accept ((s.modStn i fun x => { x with closed := true }).done ⟨l, tag, [b]⟩ []) := by
  simp [judgeCloseStation, stockStation, hb, hi]

theorem judgeOpenStation_of_stock {i : StationId} (hb : b.toNat = i.val + 1) (hi : s.map.kindOf i = some .stock) :
    judgeOpenStation ⟨l, tag, [b]⟩ s =
      if (s.stn i).closed then
        .accept (((s.modStn i fun x => { x with closed := false }).done ⟨l, tag, [b]⟩ []).raiseOpportunity).finish
      else .accept (s.done ⟨l, tag, [b]⟩ []) := by
  simp only [judgeOpenStation, stockStation, hb, stationOf_num, hi, if_true]

/-- A request that names no station, or one of another kind, is refused BAD_VALUE (R96). -/
theorem stockStation_of_no_stock (h : ∀ i : StationId, b.toNat = i.val + 1 → s.map.kindOf i ≠ some .stock)
    (f : StationId → Verdict) : stockStation s [b] f = .refuse .badValue := by
  cases hi : stationOf b.toNat with
  | none => simp [stockStation, hi]
  | some i => simp [stockStation, hi, h i (stationOf_eq_some.mp hi)]

theorem judgeCloseStation_of_no_stock (h : ∀ i : StationId, b.toNat = i.val + 1 → s.map.kindOf i ≠ some .stock) :
    judgeCloseStation ⟨l, tag, [b]⟩ s = .refuse .badValue := stockStation_of_no_stock h _

theorem judgeOpenStation_of_no_stock (h : ∀ i : StationId, b.toNat = i.val + 1 → s.map.kindOf i ≠ some .stock) :
    judgeOpenStation ⟨l, tag, [b]⟩ s = .refuse .badValue := stockStation_of_no_stock h _

end Stock

/-! ## The closed flag -/

theorem ReqKind.station_flags_permitted {l : Link} (hl : l = .stock ∨ l = .service) :
    ReqKind.closeStation.permitted l = true ∧ ReqKind.openStation.permitted l = true := by
  rcases hl with rfl | rfl <;> exact ⟨rfl, rfl⟩

/-- A station's record changed and DONE are the reply with the new record. -/
theorem State.modStn_done_take (s : State) (l : Link) (i : StationId) (f : StationRec → StationRec) (tag : Byte) (b : List Byte) :
    ((s.take l).modStn i f).done ⟨l, tag, b⟩ [] =
      { (s.replied l .done tag []) with stations := tset s.stations i (f (s.stn i)) } := by
  rw [← State.done_take s l tag b []]
  rfl

/-- Settles O33, by the station that the number names. -/
theorem stationsCloseAndOpen : Obligations.StationsCloseAndOpen := by
  intro l tag b s hl
  obtain ⟨hclose, hopen⟩ := ReqKind.station_flags_permitted hl
  refine ⟨fun i hb hi => ⟨fun h => ?_, fun h => ?_⟩, fun hno => ⟨fun h => ?_, fun h => ?_⟩⟩
  · rw [exec_of_request h hclose rfl, judgeCloseStation_of_stock (s := s.take l) hb hi, Verdict.run_accept, State.modStn_done_take]
  · rw [exec_of_request h hopen rfl, judgeOpenStation_of_stock (s := s.take l) hb hi, State.take_stn]
    refine ⟨fun hclosed => ?_, fun hclosed => ?_⟩
    · rw [if_pos hclosed, Verdict.run_accept, State.modStn_done_take]
      rfl
    · rw [if_neg (Bool.eq_false_iff.mp hclosed), Verdict.run_accept, State.done_take]
  · rw [exec_of_request h hclose rfl, judgeCloseStation_of_no_stock (s := s.take l) hno, Verdict.run_refuse_take, Reason.body]
  · rw [exec_of_request h hopen rfl, judgeOpenStation_of_no_stock (s := s.take l) hno, Verdict.run_refuse_take, Reason.body]

end Sys2Proof.Machine

/-! ADMIT (R110), and the move-up and the docking by which an admitted carrier comes to rest in a depot (R85, R88, R94). -/

namespace Sys2Proof.Machine

/-! ## Records read back -/

section ReadBack

variable (s : State) (i : StationId) (c : CarrierId)

@[simp] theorem State.stn_modStn (f : StationRec → StationRec) : (s.modStn i f).stn i = f (s.stn i) := State.stn_setStn ..
@[simp] theorem State.car_modCar (f : CarrierRec → CarrierRec) : (s.modCar c f).car c = f (s.car c) := State.car_setCar ..
@[simp] theorem State.modStn_car (f : StationRec → StationRec) : (s.modStn i f).car c = s.car c := rfl
@[simp] theorem State.modCar_stn (f : CarrierRec → CarrierRec) : (s.modCar c f).stn i = s.stn i := rfl
@[simp] theorem State.applySpur_stn (j : StationId) : (s.applySpur i).stn j = s.stn j := rfl
@[simp] theorem State.applySpur_car : (s.applySpur i).car c = s.car c := rfl

/-- Every other carrier's record reads as before. -/
theorem State.car_modCar_ne {c d : CarrierId} (h : d ≠ c) (f : CarrierRec → CarrierRec) : (s.modCar c f).car d = s.car d :=
  tget_tset_ne _ _ h.symm

end ReadBack

/-! ## The tail of a queue -/

section Enqueue

variable {s : State} {i : StationId} {c : CarrierId}

@[simp] theorem State.enqueue_stn (f : CarrierRec → CarrierRec) :
    (s.enqueue i c f).stn i = { (s.stn i) with queue := (s.stn i).queue ++ [c] } :=
  State.stn_modStn s i fun r => { r with queue := r.queue ++ [c] }

@[simp] theorem State.enqueue_car (f : CarrierRec → CarrierRec) :
    (s.enqueue i c f).car c = { (f (s.car c)) with place := .queue i (s.stn i).queue.length } := State.car_modCar ..

/-- A carrier appended to a queue in which none waits is the first to wait there, unless its launch is pending (R85). -/
theorem StationRec.firstWaiting_append {r : StationRec} (hnone : r.firstWaiting = none) (hlaunch : r.launchPending ≠ some c) :
    ({ r with queue := r.queue ++ [c] } : StationRec).firstWaiting = some c := by
  have hq : r.queue.find? (fun d => some d != r.launchPending) = none := hnone
  simp [StationRec.firstWaiting, List.find?_append, hq, hlaunch.symm]

/-! ## Move-up and docking -/

/-- A move-up that begins: the first carrier that waits is the one that moves, with a DOCK stretch (R85). -/
theorem State.tryMoveUp_begins (hdock : (s.stn i).dock = .empty) (hmove : (s.stn i).movingUp = none)
    (hfirst : (s.stn i).firstWaiting = some c) :
    s.tryMoveUp i =
      ((s.modStn i fun r => { r with movingUp := some c }).modCar c fun r => r.beginDock s.map i).applySpur i := by
  unfold State.tryMoveUp
  simp only [hdock, hmove, hfirst, and_self, if_true]
  rfl

/-- An IDLE carrier not to be removed stays as it is at a depot's dock (R88). -/
theorem State.dockEffects_idle (hkind : (s.stn i).kind = some .depot) (hidle : (s.car c).state = .idle)
    (hretire : (s.car c).retirePending = false) : s.dockEffects i c = s := by
  simp [State.dockEffects, hkind, hidle, hretire]

theorem State.dockCarrier_idle (hkind : (s.stn i).kind = some .depot) (hidle : (s.car c).state = .idle)
    (hretire : (s.car c).retirePending = false) (a : Awaited) :
    s.dockCarrier i c a =
      (s.modStn i fun r => { r with dock := .docked c, awaitedDock := a }).modCar c fun r => { r with place := .docked i } :=
  State.dockEffects_idle (by simp [hkind]) (by simp [hidle]) (by simp [hretire])

end Enqueue

/-! ## What the spur unit does with an admitted carrier -/

/-- One carrier has been set moving or at rest in one station's spur: of that carrier only the place and the passage have changed,
and no other carrier, queue, order, section, link or item of the map. -/
structure State.Settles (s t : State) (i : StationId) (c : CarrierId) : Prop where
  car : ∃ place passage, t.car c = { (s.car c) with place := place, passage := passage }
  others : ∀ d, d ≠ c → t.car d = s.car d
  queue : (t.stn i).queue = (s.stn i).queue
  links : t.links = s.links
  book : t.book = s.book
  track : t.track = s.track
  secs : t.secs = s.secs
  map : t.map = s.map

section Admit

variable {s : State} {i : StationId} {c : CarrierId}

theorem State.tryMoveUp_settles (hdock : (s.stn i).dock = .empty) (hmove : (s.stn i).movingUp = none)
    (hfirst : (s.stn i).firstWaiting = some c) : s.Settles (s.tryMoveUp i) i c := by
  rw [State.tryMoveUp_begins hdock hmove hfirst]
  refine ⟨⟨(s.car c).place, ((s.car c).beginDock s.map i).passage, ?_⟩, fun d hd => ?_, by simp, rfl, rfl, rfl, rfl, rfl⟩
  · rw [State.applySpur_car, State.car_modCar]
    rfl
  · rw [State.applySpur_car, State.car_modCar_ne _ hd, State.modStn_car]

theorem State.dockCarrier_settles (hkind : (s.stn i).kind = some .depot) (hidle : (s.car c).state = .idle)
    (hretire : (s.car c).retirePending = false) (a : Awaited) : s.Settles (s.dockCarrier i c a) i c := by
  rw [State.dockCarrier_idle hkind hidle hretire]
  exact ⟨⟨_, _, State.car_modCar ..⟩, fun d hd => State.car_modCar_ne _ hd _, by simp, rfl, rfl, rfl, rfl, rfl⟩

/-- In a depot an IDLE carrier not to be removed joins the tail of the queue, and then docks, begins its move-up or rests (R94). -/
theorem State.admitToSpur_settles (hkind : (s.stn i).kind = some .depot) (hidle : (s.car c).state = .idle)
    (hretire : (s.car c).retirePending = false) : (s.enqueue i c id).Settles (s.admitToSpur c i) i c := by
  unfold State.admitToSpur
  dsimp only
  split
  · next h =>
    obtain ⟨hdock, hmove, hfirst⟩ := h
    split
    · exact State.dockCarrier_settles (by simpa using hkind) (by simpa using hidle) (by simpa using hretire) _
    · exact State.tryMoveUp_settles hdock hmove hfirst
  · exact ⟨⟨_, _, rfl⟩, fun _ _ => rfl, rfl, rfl, rfl, rfl, rfl, rfl⟩

/-- Where none waits and the dock is empty, the dock sensor says whether the carrier is at the dock already (R94). -/
theorem State.admitToSpur_first (hdock : (s.stn i).dock = .empty) (hmove : (s.stn i).movingUp = none)
    (hnone : (s.stn i).firstWaiting = none) (hlaunch : (s.stn i).launchPending ≠ some c) :
    s.admitToSpur c i =
      if s.active (.dock i) then (s.enqueue i c id).dockCarrier i c .none else (s.enqueue i c id).tryMoveUp i := by
  have hfirst : ((s.enqueue i c id).stn i).firstWaiting = some c := by
    rw [State.enqueue_stn]
    exact StationRec.firstWaiting_append hnone hlaunch
  unfold State.admitToSpur
  exact if_pos ⟨by simpa using hdock, by simpa using hmove, hfirst⟩

theorem State.admitToSpur_docks (hkind : (s.stn i).kind = some .depot) (hidle : (s.car c).state = .idle)
    (hretire : (s.car c).retirePending = false) (hdock : (s.stn i).dock = .empty) (hmove : (s.stn i).movingUp = none)
    (hnone : (s.stn i).firstWaiting = none) (hlaunch : (s.stn i).launchPending ≠ some c) (hactive : s.active (.dock i) = true) :
    ((s.admitToSpur c i).stn i).dock = .docked c ∧ ((s.admitToSpur c i).car c).place = .docked i := by
  rw [State.admitToSpur_first hdock hmove hnone hlaunch, if_pos hactive,
    State.dockCarrier_idle (by simpa using hkind) (by simpa using hidle) (by simpa using hretire)]
  simp

theorem State.admitToSpur_moves_up (hdock : (s.stn i).dock = .empty) (hmove : (s.stn i).movingUp = none)
    (hnone : (s.stn i).firstWaiting = none) (hlaunch : (s.stn i).launchPending ≠ some c) (hactive : s.active (.dock i) = false) :
    ((s.admitToSpur c i).stn i).movingUp = some c ∧ ((s.admitToSpur c i).car c).passage.stretch = .dock i := by
  rw [State.admitToSpur_first hdock hmove hnone hlaunch, if_neg (Bool.eq_false_iff.mp hactive),
    State.tryMoveUp_begins (by simpa using hdock) (by simpa using hmove)
      (by simpa using StationRec.firstWaiting_append hnone hlaunch)]
  simp [CarrierRec.beginDock, Passage.begin]

/-! ## The carrier an ADMIT takes -/

/-- The state in which a carrier has the fresh record of an ADMIT, IDLE and not yet on the rail (R110). -/
def State.renew (s : State) (c : CarrierId) : State := s.modCar c fun _ => { CarrierRec.reset with state := .idle }

theorem State.admitAt_eq (s : State) (r : Req) (c : CarrierId) (i : StationId) :
    s.admitAt r c i = ((s.renew c).admitToSpur c i).done r [] := rfl

theorem State.renew_car (s : State) (c : CarrierId) : (s.renew c).car c = { CarrierRec.reset with state := .idle } :=
  State.car_modCar ..

theorem State.renew_idle (s : State) (c : CarrierId) :
    ((s.renew c).car c).state = .idle ∧ ((s.renew c).car c).retirePending = false := by
  rw [State.renew_car]
  exact ⟨rfl, rfl⟩

/-- An admitted carrier's record is fresh but for its place and its passage (R110). -/
theorem State.admitted_car (hkind : (s.stn i).kind = some .depot) : ∃ place passage,
    ((s.renew c).admitToSpur c i).car c =
      { CarrierRec.reset with state := .idle, place := place, passage := passage } := by
  obtain ⟨hidle, hretire⟩ := s.renew_idle c
  obtain ⟨place, passage, hcar⟩ := (State.admitToSpur_settles (s := s.renew c) hkind hidle hretire).car
  rw [State.enqueue_car, id, State.renew_car] at hcar
  exact ⟨place, passage, hcar⟩

/-- No other carrier's record is written. -/
theorem State.admitted_car_ne (hkind : (s.stn i).kind = some .depot) {d : CarrierId} (hd : d ≠ c) :
    ((s.renew c).admitToSpur c i).car d = s.car d := by
  obtain ⟨hidle, hretire⟩ := s.renew_idle c
  calc ((s.renew c).admitToSpur c i).car d
      _ = ((s.renew c).enqueue i c id).car d :=
        (State.admitToSpur_settles (s := s.renew c) hkind hidle hretire).others d hd
      _ = (s.renew c).car d := State.car_modCar_ne _ hd _
      _ = s.car d := State.car_modCar_ne _ hd _

/-! ## The tests of R110 -/

theorem StationRec.hasRoom_iff (r : StationRec) : r.hasRoom = true ↔ r.queue.length + r.inbound < r.capacity := decide_eq_true_iff

/-- A carrier that is UNKNOWN or OUT is not in service (R101). -/
theorem CarrierRec.inService_eq_false {r : CarrierRec} (h : r.state = .unknown ∨ r.state = .out) : r.inService = false := by
  rcases h with h | h <;> simp [CarrierRec.inService, h]

/-- An ADMIT whose numbers name a carrier and a station comes to the later tests of R110. -/
theorem judgeAdmit_pair {b d : Byte} (hb : b.toNat = c.val) (hd : d.toNat = i.val + 1) (l : Link) (tag : Byte) :
    judgeAdmit ⟨l, tag, [b, d]⟩ s = judgeAdmitTo ⟨l, tag, [b, d]⟩ s c i := by
  simp only [judgeAdmit, carrierOf_eq_some.mpr hb, stationOf_eq_some.mpr hd]

theorem judgeAdmit_no_place {b d : Byte} (h : 16 ≤ b.toNat ∨ d.toNat = 0 ∨ 13 ≤ d.toNat) (l : Link) (tag : Byte) :
    judgeAdmit ⟨l, tag, [b, d]⟩ s = .refuse .badValue := by
  rcases h with hb | hd
  · simp [judgeAdmit, carrierOf_eq_none.mpr hb]
  · simp [judgeAdmit, stationOf_eq_none.mpr hd]

/-- An ADMIT that passes the tests of R110. -/
theorem judgeAdmitTo_accepts {r : Req} (hmap : s.map.state = .valid) (hmode : s.track.mode ≠ .survey)
    (hkind : (s.stn i).kind = some .depot) (hcar : (s.car c).state = .unknown ∨ (s.car c).state = .out)
    (hroom : (s.stn i).queue.length + (s.stn i).inbound < (s.stn i).capacity) :
    judgeAdmitTo r s c i = .accept (s.admitAt r c i).finish := by
  simp [judgeAdmitTo, hmap, hmode, hkind, CarrierRec.inService_eq_false hcar, (StationRec.hasRoom_iff _).mpr hroom]

end Admit

/-- Settles O39: the tests of R110 one after another, and what an ADMIT that passes them all leaves. -/
theorem admitJoinsTheQueue : Obligations.AdmitJoinsTheQueue := by
  refine ⟨fun tag body s h => ?_, fun tag b d s c i h hb hd hmap hmode hkind hcar hroom => ?_⟩
  · refine ⟨fun hlen => exec_refused (high := []) (straps := ⟨0, 0⟩) h rfl (ReqKind.judge_of_length_ne rfl hlen ..), ?_⟩
    rintro b d rfl
    rw [exec_of_request h rfl rfl]
    refine ⟨fun hout => ?_, fun c i hb hd => ?_⟩
    · rw [judgeAdmit_no_place hout, Verdict.run_refuse_take, Reason.body]
    rw [judgeAdmit_pair hb hd]
    refine ⟨fun hmap => ?_, fun hmap => ?_, fun hmap => ⟨fun hmode => ?_, fun hmode => ⟨fun hkind => ?_, fun hkind =>
      ⟨fun hunknown hout => ?_, fun hcar hfull => ?_⟩⟩⟩⟩
    · simp [judgeAdmitTo, hmap, Busy.code]
    · simp [judgeAdmitTo, hmap, Busy.code]
    · simp [judgeAdmitTo, hmap, hmode, Busy.code]
    · simp [judgeAdmitTo, hmap, hmode, hkind, Reason.body]
    · simp [judgeAdmitTo, hmap, hmode, hkind, (s.car c).inService_iff.mpr ⟨hout, hunknown⟩, Reason.body]
    · have hroom : (s.stn i).hasRoom = false := by
        rw [Bool.eq_false_iff, ne_eq, StationRec.hasRoom_iff]
        omega
      simp [judgeAdmitTo, hmap, hmode, hkind, CarrierRec.inService_eq_false hcar, hroom, Busy.code]
  · obtain ⟨hidle, hretire⟩ := (s.take .service).renew_idle c
    have hsettles := State.admitToSpur_settles (s := (s.take .service).renew c) (i := i) hkind hidle hretire
    obtain ⟨place, passage, hrec⟩ := State.admitted_car (s := s.take .service) (c := c) hkind
    have hqueue : ((((s.take .service).renew c).admitToSpur c i).stn i).queue = (s.stn i).queue ++ [c] := by
      rw [hsettles.queue, State.enqueue_stn]
      rfl
    refine ⟨((s.take .service).renew c).admitToSpur c i, ?_, hsettles.links, hqueue, ?_⟩
    · rw [exec_of_request h rfl rfl, judgeAdmit_pair hb hd,
        judgeAdmitTo_accepts (s := s.take .service) hmap hmode hkind hcar hroom, Verdict.run_accept, State.admitAt_eq]
    rw [hrec]
    refine ⟨rfl, rfl, rfl, rfl, rfl, rfl, rfl, rfl, fun d hd => State.admitted_car_ne (s := s.take .service) hkind hd,
      fun hdock hmove hnone hlaunch => ?_, hsettles.book, hsettles.track, hsettles.secs, hsettles.map⟩
    rw [← hrec]
    exact ⟨State.admitToSpur_docks (s := (s.take .service).renew c) hkind hidle hretire hdock hmove hnone hlaunch,
      State.admitToSpur_moves_up (s := (s.take .service).renew c) hdock hmove hnone hlaunch⟩

end Sys2Proof.Machine
